-- ==== Sys2Proof/Word.lean ====
section
/-! DEFINITION. The widths of FFCORE: register words, command words, bytes and register indices (spec/10_state.md R21,
spec/30_encoding.md R60, R61). -/

namespace Sys2Proof

/-- A general register's contents (R21), an operand or a ROM word (R40). -/
abbrev Word := BitVec 64

/-- A command word (R60), and the width of `ST` and `FCW` (R24, R25). -/
abbrev CommandWord := BitVec 32

/-- One byte of an 8-byte window (R103). -/
abbrev Byte := BitVec 8

/-- A register index, 0 to 15 (R21, R63). -/
abbrev Reg := Fin 16

end Sys2Proof
end

