-- ==== Sys2Proof/Syntax.lean ====
section
/-! DEFINITION. The commands of FFCORE as syntax: the thirteen mnemonics, the five operand forms and one constructor of
`Instr` per row of spec/opcode_table.json (spec/30_encoding.md R62, R65). -/

namespace Sys2Proof

/-- The thirteen commands, in the order of R65. -/
inductive Mnemonic where
  | mul128 | lzc64
  | dec8 | isdig8 | isdigit | isspace
  | p5w | p5q | bexp
  | el64 | el32
  | asm64 | asm32
deriving DecidableEq, Repr

/-- The operand forms of R62: how many destinations and how many sources a command names. -/
inductive Form where
  | d1s1 | d2s1 | d2s2 | d2s3 | d1s3
deriving DecidableEq, Repr

/-- A command with its operands, destinations first, in the order of the written form (R70). -/
inductive Instr where
  | mul128 (rd rd2 rs1 rs2 : Reg)
  | lzc64 (rd rs1 : Reg)
  | dec8 (rd rs1 : Reg)
  | isdig8 (rd rs1 : Reg)
  | isdigit (rd rd2 rs1 : Reg)
  | isspace (rd rs1 : Reg)
  | p5w (rd rs1 : Reg)
  | p5q (rd rd2 rs1 : Reg)
  | bexp (rd rs1 : Reg)
  | el64 (rd rd2 rs1 rs2 rs3 : Reg)
  | el32 (rd rd2 rs1 rs2 rs3 : Reg)
  | asm64 (rd rs1 rs2 rs3 : Reg)
  | asm32 (rd rs1 rs2 rs3 : Reg)
deriving DecidableEq, Repr

end Sys2Proof
end

