-- ==== Sys2Proof/WellFormed.lean ====
section
/-! DEFINITION. Which terms of `Instr` are commands: the two destinations of a two-destination form differ
(spec/30_encoding.md R67). Register indices are in range by their type. -/

namespace Sys2Proof

/-- R67: `RD` and `RD2` must differ. A command with one destination has no such check. -/
def Instr.wellFormed : Instr → Bool
  | .mul128 rd rd2 _ _ => rd != rd2
  | .lzc64 _ _ => true
  | .dec8 _ _ => true
  | .isdig8 _ _ => true
  | .isdigit rd rd2 _ => rd != rd2
  | .isspace _ _ => true
  | .p5w _ _ => true
  | .p5q rd rd2 _ => rd != rd2
  | .bexp _ _ => true
  | .el64 rd rd2 _ _ _ => rd != rd2
  | .el32 rd rd2 _ _ _ => rd != rd2
  | .asm64 _ _ _ _ => true
  | .asm32 _ _ _ _ => true

end Sys2Proof
end

