-- ==== Sys2Proof/Decode.lean ====
section
/-! DEFINITION. Command words: fields, opcode map, decoder and encoder (spec/30_encoding.md R61 to R69). -/

namespace Sys2Proof

/-! ### Fields (R61) -/

/-- `OPC`, bits 31:24. -/
def fieldOpc (cw : CommandWord) : BitVec 8 := cw.extractLsb' 24 8

/-- The 4-bit register field whose lowest bit is `lo`. -/
def fieldReg (lo : Nat) (cw : CommandWord) : Reg := (cw.extractLsb' lo 4).toFin

/-- `RD`, bits 23:20. -/
def fieldRd (cw : CommandWord) : Reg := fieldReg 20 cw

/-- `RD2`, bits 19:16. -/
def fieldRd2 (cw : CommandWord) : Reg := fieldReg 16 cw

/-- `RS1`, bits 15:12. -/
def fieldRs1 (cw : CommandWord) : Reg := fieldReg 12 cw

/-- `RS2`, bits 11:8. -/
def fieldRs2 (cw : CommandWord) : Reg := fieldReg 8 cw

/-- `RS3`, bits 7:4. -/
def fieldRs3 (cw : CommandWord) : Reg := fieldReg 4 cw

/-- The word with the given fields and `Z = 0` (R61). -/
def packWord (opc : BitVec 8) (rd rd2 rs1 rs2 rs3 : Reg) : CommandWord :=
  opc ++ (BitVec.ofFin rd : BitVec 4) ++ (BitVec.ofFin rd2 : BitVec 4) ++ (BitVec.ofFin rs1 : BitVec 4)
    ++ (BitVec.ofFin rs2 : BitVec 4) ++ (BitVec.ofFin rs3 : BitVec 4) ++ (0#4)

/-! ### The opcode map (R62, R65) -/

/-- The `OPC` column of R65. -/
def opcodeOf : Mnemonic → BitVec 8
  | .mul128 => 0x10
  | .lzc64 => 0x11
  | .dec8 => 0x20
  | .isdig8 => 0x21
  | .isdigit => 0x22
  | .isspace => 0x23
  | .p5w => 0x30
  | .p5q => 0x31
  | .bexp => 0x32
  | .el64 => 0x40
  | .el32 => 0x41
  | .asm64 => 0x50
  | .asm32 => 0x51

/-- The form column of R65. -/
def formOf : Mnemonic → Form
  | .mul128 => .d2s2
  | .lzc64 => .d1s1
  | .dec8 => .d1s1
  | .isdig8 => .d1s1
  | .isdigit => .d2s1
  | .isspace => .d1s1
  | .p5w => .d1s1
  | .p5q => .d2s1
  | .bexp => .d1s1
  | .el64 => .d2s3
  | .el32 => .d2s3
  | .asm64 => .d1s3
  | .asm32 => .d1s3

/-- The mask of fixed bits of a form (R62). -/
def formMask : Form → CommandWord
  | .d1s1 => 0xFF0F0FFF
  | .d2s1 => 0xFF000FFF
  | .d2s2 => 0xFF0000FF
  | .d2s3 => 0xFF00000F
  | .d1s3 => 0xFF0F000F

/-- Whether a form has the second destination (R62). -/
def formHasRd2 : Form → Bool
  | .d1s1 => false
  | .d2s1 => true
  | .d2s2 => true
  | .d2s3 => true
  | .d1s3 => false

/-- The `match` column of R65: `OPC << 24`. -/
def matchOf (m : Mnemonic) : CommandWord := (opcodeOf m).setWidth 32 <<< 24

/-- The rows of R65 in their order. -/
def allMnemonics : List Mnemonic :=
  [.mul128, .lzc64, .dec8, .isdig8, .isdigit, .isspace, .p5w, .p5q, .bexp, .el64, .el32, .asm64, .asm32]

/-- The command an `OPC` value names; `none` for the 243 unassigned values (R68). -/
def mnemonicOfOpcode (opc : BitVec 8) : Option Mnemonic := allMnemonics.find? fun m => opcodeOf m == opc

/-! ### Decoding (R66) -/

/-- Why a word is no command. Each is ILLEGAL_COMMAND(0) to the hardware (R66 to R68). -/
inductive DecodeError where
  /-- `OPC` is none of the thirteen (R68). -/
  | unassignedOpcode
  /-- An unused field or `Z` is not 0 (R62). -/
  | reservedNonzero
  /-- `RD = RD2` in a two-destination form (R67). -/
  | equalDestinations
deriving DecidableEq, Repr

/-- The command with the given mnemonic and fields; fields its form does not use are dropped (R62). -/
def instrOfFields (m : Mnemonic) (rd rd2 rs1 rs2 rs3 : Reg) : Instr :=
  match m with
  | .mul128 => .mul128 rd rd2 rs1 rs2
  | .lzc64 => .lzc64 rd rs1
  | .dec8 => .dec8 rd rs1
  | .isdig8 => .isdig8 rd rs1
  | .isdigit => .isdigit rd rd2 rs1
  | .isspace => .isspace rd rs1
  | .p5w => .p5w rd rs1
  | .p5q => .p5q rd rd2 rs1
  | .bexp => .bexp rd rs1
  | .el64 => .el64 rd rd2 rs1 rs2 rs3
  | .el32 => .el32 rd rd2 rs1 rs2 rs3
  | .asm64 => .asm64 rd rs1 rs2 rs3
  | .asm32 => .asm32 rd rs1 rs2 rs3

/-- `decode` of R66: the three checks in the order written there. -/
def decode (cw : CommandWord) : Except DecodeError Instr :=
  match mnemonicOfOpcode (fieldOpc cw) with
  | none => .error .unassignedOpcode
  | some m =>
    if cw &&& formMask (formOf m) ≠ matchOf m then .error .reservedNonzero
    else if formHasRd2 (formOf m) = true ∧ fieldRd cw = fieldRd2 cw then .error .equalDestinations
    else .ok (instrOfFields m (fieldRd cw) (fieldRd2 cw) (fieldRs1 cw) (fieldRs2 cw) (fieldRs3 cw))

/-! ### Encoding (R61, R65, R70) -/

/-- The command's mnemonic. -/
def Instr.mnemonic : Instr → Mnemonic
  | .mul128 _ _ _ _ => .mul128
  | .lzc64 _ _ => .lzc64
  | .dec8 _ _ => .dec8
  | .isdig8 _ _ => .isdig8
  | .isdigit _ _ _ => .isdigit
  | .isspace _ _ => .isspace
  | .p5w _ _ => .p5w
  | .p5q _ _ _ => .p5q
  | .bexp _ _ => .bexp
  | .el64 _ _ _ _ _ => .el64
  | .el32 _ _ _ _ _ => .el32
  | .asm64 _ _ _ _ => .asm64
  | .asm32 _ _ _ _ => .asm32

/-- The command word: each operand in its field and every other field 0 (R70). -/
def encode : Instr → CommandWord
  | .mul128 rd rd2 rs1 rs2 => packWord (opcodeOf .mul128) rd rd2 rs1 rs2 0
  | .lzc64 rd rs1 => packWord (opcodeOf .lzc64) rd 0 rs1 0 0
  | .dec8 rd rs1 => packWord (opcodeOf .dec8) rd 0 rs1 0 0
  | .isdig8 rd rs1 => packWord (opcodeOf .isdig8) rd 0 rs1 0 0
  | .isdigit rd rd2 rs1 => packWord (opcodeOf .isdigit) rd rd2 rs1 0 0
  | .isspace rd rs1 => packWord (opcodeOf .isspace) rd 0 rs1 0 0
  | .p5w rd rs1 => packWord (opcodeOf .p5w) rd 0 rs1 0 0
  | .p5q rd rd2 rs1 => packWord (opcodeOf .p5q) rd rd2 rs1 0 0
  | .bexp rd rs1 => packWord (opcodeOf .bexp) rd 0 rs1 0 0
  | .el64 rd rd2 rs1 rs2 rs3 => packWord (opcodeOf .el64) rd rd2 rs1 rs2 rs3
  | .el32 rd rd2 rs1 rs2 rs3 => packWord (opcodeOf .el32) rd rd2 rs1 rs2 rs3
  | .asm64 rd rs1 rs2 rs3 => packWord (opcodeOf .asm64) rd 0 rs1 rs2 rs3
  | .asm32 rd rs1 rs2 rs3 => packWord (opcodeOf .asm32) rd 0 rs1 rs2 rs3

/-- The registers a command writes when it completes (R64, R65). -/
def Instr.dests : Instr → List Reg
  | .mul128 rd rd2 _ _ => [rd, rd2]
  | .lzc64 rd _ => [rd]
  | .dec8 rd _ => [rd]
  | .isdig8 rd _ => [rd]
  | .isdigit rd rd2 _ => [rd, rd2]
  | .isspace rd _ => [rd]
  | .p5w rd _ => [rd]
  | .p5q rd rd2 _ => [rd, rd2]
  | .bexp rd _ => [rd]
  | .el64 rd rd2 _ _ _ => [rd, rd2]
  | .el32 rd rd2 _ _ _ => [rd, rd2]
  | .asm64 rd _ _ _ => [rd]
  | .asm32 rd _ _ _ => [rd]

/-- The registers a command reads (R63, R65). -/
def Instr.sources : Instr → List Reg
  | .mul128 _ _ rs1 rs2 => [rs1, rs2]
  | .lzc64 _ rs1 => [rs1]
  | .dec8 _ rs1 => [rs1]
  | .isdig8 _ rs1 => [rs1]
  | .isdigit _ _ rs1 => [rs1]
  | .isspace _ rs1 => [rs1]
  | .p5w _ rs1 => [rs1]
  | .p5q _ _ rs1 => [rs1]
  | .bexp _ rs1 => [rs1]
  | .el64 _ _ rs1 rs2 rs3 => [rs1, rs2, rs3]
  | .el32 _ _ rs1 rs2 rs3 => [rs1, rs2, rs3]
  | .asm64 _ rs1 rs2 rs3 => [rs1, rs2, rs3]
  | .asm32 _ rs1 rs2 rs3 => [rs1, rs2, rs3]

/-- The host's question of the decoder: the instruction whose bits are the low `nbits` bits of `w` and 0 above. A command
is presented whole, so there is no byte order (R60); a number above 32 bits is no command word (R69). Log entry 15. -/
def decodeTableWord (nbits w : Nat) : Option Instr :=
  if w % 2 ^ nbits < 2 ^ 32 then
    match decode (BitVec.ofNat 32 (w % 2 ^ nbits)) with
    | .ok i => some i
    | .error _ => none
  else none

end Sys2Proof
end

