-- ==== Sys2Proof/Machine/Formats.lean ====
section
/-! DEFINITION. The two output formats and their constants (spec/42_eisel_lemire.md R151), the AdjustedMantissa, and the
IEEE-754 layouts (spec/43_assembler.md R195). -/

namespace Sys2Proof.Machine

/-- The per-format constants of R151. -/
structure Format where
  /-- `EB`: explicit mantissa bits. -/
  eb : Nat
  /-- `W`: width of the pattern. -/
  width : Nat
  /-- `MINEXP`: minus the exponent bias. -/
  minExp : Int
  /-- `INF`: the biased exponent of infinity. -/
  inf : Nat
  /-- `QLO` and `QHI`: the exponents with a possibly nonzero finite result. -/
  qLo : Int
  qHi : Int
  /-- `BP`: `bit_precision`. -/
  bitPrecision : Nat
  /-- `RTE_LO..RTE_HI`: where an exact halfway case can occur. -/
  rteLo : Int
  rteHi : Int
  /-- `SAFE_LO..SAFE_HI`: where an all-ones low word need not decline. -/
  safeLo : Int
  safeHi : Int
deriving DecidableEq, Repr

/-- The binary64 column of R151. -/
def binary64 : Format where
  eb := 52
  width := 64
  minExp := -1023
  inf := 2047
  qLo := -342
  qHi := 308
  bitPrecision := 55
  rteLo := -4
  rteHi := 23
  safeLo := -27
  safeHi := 55

/-- The binary32 column of R151. -/
def binary32 : Format where
  eb := 23
  width := 32
  minExp := -127
  inf := 255
  qLo := -65
  qHi := 38
  bitPrecision := 26
  rteLo := -17
  rteHi := 10
  safeLo := -27
  safeHi := 55

/-- `MASK = M64 >> BP` (R151): the low `64 − BP` bits of the high product word. -/
def formatMask (F : Format) : Nat := (2 ^ 64 - 1) >>> F.bitPrecision

/-- An AdjustedMantissa: a significand and a biased binary exponent (spec/00_scope.md, glossary). -/
structure AdjustedMantissa where
  mantissa : Nat
  power2 : Int
deriving DecidableEq, Repr

/-- What the approximator answers: a value, or "fast path could not decide" (R169). -/
inductive Approximation where
  | decline
  | value (am : AdjustedMantissa)
deriving DecidableEq, Repr

/-- What an IEEE-754 pattern stands for (R195): `(−1)^negative × significand × 2^exponent`, an infinity or a NaN. -/
inductive IeeeDatum where
  | finite (negative : Bool) (significand : Nat) (exponent : Int)
  | infinity (negative : Bool)
  | nan
deriving DecidableEq, Repr

/-- The sign bit of a pattern of format `F` (R195). -/
def ieeeSign (F : Format) (bits : Nat) : Bool := bits / 2 ^ (F.width - 1) % 2 == 1

/-- The biased exponent field (R195). -/
def ieeeExponent (F : Format) (bits : Nat) : Nat := bits / 2 ^ F.eb % (F.inf + 1)

/-- The fraction field (R195). -/
def ieeeFraction (F : Format) (bits : Nat) : Nat := bits % 2 ^ F.eb

/-- Reading a pattern by the layouts and value formulas of R195 (log entry 16). No command does this. -/
def ieeeDatum (F : Format) (bits : Nat) : IeeeDatum :=
  if ieeeExponent F bits = F.inf then
    if ieeeFraction F bits = 0 then .infinity (ieeeSign F bits) else .nan
  else if ieeeExponent F bits = 0 then .finite (ieeeSign F bits) (ieeeFraction F bits) (1 + F.minExp - F.eb)
  else .finite (ieeeSign F bits) (2 ^ F.eb + ieeeFraction F bits) (ieeeExponent F bits + F.minExp - F.eb)

end Sys2Proof.Machine
end

