-- ==== Sys2Proof/Config.lean ====
section
/-! DEFINITION. What an implementation of FFCORE fixes, and the one source of free values. -/

namespace Sys2Proof.Config

/-- A value the spec leaves open. It has no body: nothing in Lean can evaluate it. The general registers after the
host's `Reset()` are `freeWord n`, `freeWord (n + 1)`, … for the counter `n` that State holds (spec/10_state.md R33,
spec/70_reset_and_hazards.md R240, spec/93_implementation_defined.md U3). Log entry 2; safe, but for a claim that
compares the registers of two instances or two runs (log entries 2 and 12). -/
opaque freeWord : Nat → Word

/-- `MUL_IMPL` of spec/00_scope.md R7: which multiplier was built. It has no observable effect (R101), so no command
reads it; `Machine/Datapaths.lean` gives both. -/
inductive MulImpl where
  | native
  | decomposed
deriving DecidableEq, Repr

/-- `SWAR_IMPL` of spec/00_scope.md R7: which 8-digit path was built. It has no observable effect (R110), so no command
reads it. -/
inductive SwarImpl where
  | scalar
  | vector
deriving DecidableEq, Repr

end Sys2Proof.Config
end

