-- ==== Sys2Proof/Machine/State.lean ====
section
/-! DEFINITION. The state of FFCORE as plain data, the reasons a step could stop, and the state after reset
(spec/10_state.md R20 to R33). -/

namespace Sys2Proof.Machine

/-- The block mode (R27). -/
inductive Mode where
  | run
  | faulted
deriving DecidableEq, Repr

/-- The causes of a fault (spec/60_exceptions.md R211); code 0, NONE, is the absence of a cause. -/
inductive Cause where
  | illegalCommand
  | nondigitWindow
  | tableRange
  | exponentRange
  | amDomain
deriving DecidableEq, Repr

/-- The five operations of the host, and the only ones (R30). -/
inductive HostOp where
  | write (i : Reg) (v : Word)
  | read (i : Reg)
  | issue (cw : CommandWord)
  | readStatus
  | reset
deriving DecidableEq, Repr

/-- What a host operation returns (R30): `HostRead` a register, `ReadStatus` the triple (`ST`, `FCW`, `FINFO`). -/
inductive Reply where
  | value (v : Word)
  | status (st : BitVec 32) (fcw : CommandWord) (finfo : Word)
deriving DecidableEq, Repr

/-- FFCORE's architectural state (R20), the host-side `pc` (R22), and the model's own record of the host. -/
structure State where
  /-- `x0` to `x15` (R21). -/
  regs : Vector Word 16
  /-- `ST` (R24). -/
  st : BitVec 32
  /-- `FCW` (R25). -/
  fcw : CommandWord
  /-- `FINFO` (R26). -/
  finfo : Word
  /-- `MODE` (R27). -/
  mode : Mode
  /-- The host-side count of completed commands (R22). -/
  pc : Nat
  /-- The model's own: host operations not yet performed, oldest first (R30; log entry 4). -/
  inbox : List HostOp
  /-- The model's own: what the host has been told, newest first (R30; log entry 5). -/
  replies : List Reply
  /-- The model's own: the number of the next free value (R33; log entry 2). -/
  free : Nat
deriving DecidableEq, Repr

/-- The reasons a step could stop with a fault: there are none, so the type has no constructor. An FFCORE fault is an
architectural event with a next state (spec/60_exceptions.md R212), and a ROM read cannot fault by itself (R131, R155).
Log entry 6; safe. -/
inductive Fault where
deriving DecidableEq, Repr

/-- The reasons a step could be refused. -/
inductive Refusal where
  /-- Raised by `exec` for a command that has no meaning yet; no arm raises it now. Safe: the run stops. -/
  | notModelled (mnemonic : String)
deriving DecidableEq, Repr

/-- The state right after reset (R33, R240). The spec leaves `x0`..`x15` unspecified; here they are 0, which is a
DESIGN CHOICE and unsafe (log entry 1). No operation of the host is pending (R241; log entry 4). -/
def State.reset : State where
  regs := Vector.replicate 16 0#64
  st := 0
  fcw := 0
  finfo := 0
  mode := .run
  pc := 0
  inbox := []
  replies := []
  free := 0

end Sys2Proof.Machine
end

