-- ==== Sys2Proof/Machine/Flags.lean ====
section
/-! DEFINITION. Boolean results and the status word. FFCORE has no condition codes (spec/10_state.md R23): a Boolean goes to
a register as 1 or 0 (spec/00_scope.md R11), and the one sticky bit is `ST.FLT` (R24). -/

namespace Sys2Proof.Machine

/-- A Boolean result as a register value (R11). -/
def boolWord (b : Bool) : Word := if b then 1 else 0

/-- The cause codes of spec/60_exceptions.md R211. -/
def causeCode : Cause → BitVec 4
  | .illegalCommand => 1
  | .nondigitWindow => 2
  | .tableRange => 3
  | .exponentRange => 4
  | .amDomain => 5

/-- `ST` after a fault: `1 OR (cause << 4)` (R212). -/
def faultStatus (c : Cause) : BitVec 32 := 1 ||| (causeCode c).setWidth 32 <<< 4

/-- `ST.FLT`, bit 0 (R24). -/
def statusFlt (st : BitVec 32) : BitVec 1 := st.extractLsb' 0 1

/-- `ST.CAUSE`, bits 7:4 (R24). -/
def statusCause (st : BitVec 32) : BitVec 4 := st.extractLsb' 4 4

/-- The reserved bits 3:1 and 31:8 of `ST` are 0 (R24). -/
def statusReservedZero (st : BitVec 32) : Bool := st &&& 0xFFFFFF0E == 0

end Sys2Proof.Machine
end

