-- ==== Sys2Proof/Machine/Ops.lean ====
section
/-! DEFINITION. The shared operations on the state: registers, completing a command, taking a fault, and reset
(spec/10_state.md R21, R22, R31, R32; spec/60_exceptions.md R212; spec/70_reset_and_hazards.md R240). -/

namespace Sys2Proof.Machine

/-- What a step or a meaning answers. -/
abbrev Result := Host.Outcome State Fault Refusal

/-- `x[r]` (R10, R21). -/
def State.reg (s : State) (r : Reg) : Word := s.regs.get r

/-- `x[r] <- v` (R10, R21). -/
def State.setReg (s : State) (r : Reg) (v : Word) : State := { s with regs := s.regs.set r.val v }

/-- A command has completed: the host-side count moves on (R22). -/
def State.advance (s : State) : State := { s with pc := s.pc + 1 }

/-- The state after a command with one destination (R31). -/
def State.completed1 (s : State) (rd : Reg) (v : Word) : State := (s.setReg rd v).advance

/-- The state after a command with two destinations, both written in the same step (R32). -/
def State.completed2 (s : State) (rd rd2 : Reg) (v v2 : Word) : State := ((s.setReg rd v).setReg rd2 v2).advance

/-- Taking a fault: `raise` of R212. No general register is written and `pc` is not advanced. -/
def State.raised (s : State) (cw : CommandWord) (cause : Cause) (info : Word) : State :=
  { s with st := faultStatus cause, fcw := cw, finfo := info, mode := .faulted }

/-- The only way out of a fault: `Reset()` (R213, R240). FFCORE has no trap return (R210). The general registers are free
values, 16 for each reset (log entry 2); the host-side count restarts (R33; log entry 3). The spec relates the unspecified
registers of two instances in no way (R34, R222); here two instances with equal counters get equal values, which is a
DESIGN CHOICE and unsafe for a claim that compares them (log entries 2 and 12). -/
def State.resetBlock (s : State) : State :=
  { s with
    regs := Vector.ofFn fun i => Config.freeWord (s.free + i.val)
    st := 0
    fcw := 0
    finfo := 0
    mode := .run
    pc := 0
    free := s.free + 16 }

/-- A command completes with one result. -/
def complete1 (rd : Reg) (v : Word) (s : State) : Result := .next (s.completed1 rd v)

/-- A command completes with two results. -/
def complete2 (rd rd2 : Reg) (v v2 : Word) (s : State) : Result := .next (s.completed2 rd rd2 v v2)

/-- A command or a word faults (R212). -/
def takeFault (cw : CommandWord) (cause : Cause) (info : Word) (s : State) : Result := .next (s.raised cw cause info)

/-- The check of a two-destination command before it reads any register: `RD = RD2` is ILLEGAL_COMMAND(0) (R67). -/
def checkDests (cw : CommandWord) (rd rd2 : Reg) (s : State) (body : Result) : Result :=
  if rd = rd2 then takeFault cw .illegalCommand 0 s else body

end Sys2Proof.Machine
end

