-- ==== Sys2Proof/Machine/Operands.lean ====
section
/-! DEFINITION. The five ways a command reads a source register (spec/30_encoding.md R63), and the two ways a signed or an
unsigned integer becomes a register value (spec/10_state.md R21). -/

namespace Sys2Proof.Machine

/-- "u64": all 64 bits, unsigned. -/
def readU64 (s : State) (r : Reg) : Nat := (s.reg r).toNat

/-- "s64": all 64 bits, two's complement. -/
def readS64 (s : State) (r : Reg) : Int := (s.reg r).toInt

/-- "bit0": bit 0; bits 63:1 are ignored. -/
def readBit0 (s : State) (r : Reg) : Bool := (s.reg r).getLsbD 0

/-- "low16": bits 15:0, zero-extended; bits 63:16 are ignored. -/
def readLow16 (s : State) (r : Reg) : Nat := (s.reg r).toNat % 2 ^ 16

/-- "window": all 64 bits as eight packed bytes. -/
def readWindow (s : State) (r : Reg) : Word := s.reg r

/-- Byte `j` of a window: byte 0, the first input byte, is bits 7:0 (spec/40_bit_primitives.md R103). -/
def windowByte (v : Word) (j : Nat) : Byte := v.extractLsb' (8 * j) 8

/-- An unsigned result reduced to a register (R9). -/
def ofUnsigned (n : Nat) : Word := BitVec.ofNat 64 n

/-- A signed result as its 64-bit two's-complement encoding (R21). -/
def ofSigned (z : Int) : Word := BitVec.ofInt 64 z

end Sys2Proof.Machine
end

