-- ==== Sys2Proof/Machine/Assembler.lean ====
section
/-! DEFINITION. The Assembler family: ASM64 and ASM32 (spec/43_assembler.md R190 to R197). -/

namespace Sys2Proof.Machine

/-- The verdict of the operand checks of R191. -/
inductive AsmCheck where
  | accept
  | badPower2
  | badMantissa
deriving DecidableEq, Repr

/-- The checks of R191 in their order. -/
def asmCheck (F : Format) (m : Nat) (p2 : Int) : AsmCheck :=
  if p2 < 0 ∨ (F.inf : Int) < p2 then .badPower2
  else if p2 = F.inf then .accept
  else if 2 ^ (F.eb + 1) ≤ m then .badMantissa
  else if p2 = 0 ∧ 2 ^ F.eb ≤ m then .badMantissa
  else .accept

/-- The pattern of an accepted AdjustedMantissa (R192 to R194); the three fields do not overlap. -/
def packIeee (F : Format) (m : Nat) (p2 : Int) (sign : Bool) : Nat :=
  if p2 = F.inf then (sign.toNat <<< (F.width - 1)) ||| (F.inf <<< F.eb)
  else (sign.toNat <<< (F.width - 1)) ||| (p2.toNat <<< F.eb) ||| (m % 2 ^ F.eb)

/-- ASM in the given format: check, then pack, zero-extended to a register (R190, R191, R196, R197). -/
def runAsm (F : Format) (cw : CommandWord) (rd rs1 rs2 rs3 : Reg) (s : State) : Result :=
  match asmCheck F (readU64 s rs1) (readS64 s rs2) with
  | .badPower2 => takeFault cw .amDomain (s.reg rs2) s
  | .badMantissa => takeFault cw .amDomain (s.reg rs1) s
  | .accept => complete1 rd (ofUnsigned (packIeee F (readU64 s rs1) (readS64 s rs2) (readBit0 s rs3))) s

/-- ASM64 (R196). -/
def execAsm64 (rd rs1 rs2 rs3 : Reg) (s : State) : Result :=
  runAsm binary64 (encode (.asm64 rd rs1 rs2 rs3)) rd rs1 rs2 rs3 s

/-- ASM32 (R197). -/
def execAsm32 (rd rs1 rs2 rs3 : Reg) (s : State) : Result :=
  runAsm binary32 (encode (.asm32 rd rs1 rs2 rs3)) rd rs1 rs2 rs3 s

end Sys2Proof.Machine
end

