-- ==== Sys2Proof/Machine/Arith.lean ====
section
/-! DEFINITION. The unbounded-integer arithmetic that several units share: the 128-bit product, the leading-zero count and
the flooring shift (spec/00_scope.md R9, spec/40_bit_primitives.md R100, R102). -/

namespace Sys2Proof.Machine

/-- An unsigned 128-bit value as its two 64-bit halves, each below 2^64 (the glossary's value128). -/
structure Value128 where
  hi : Nat
  lo : Nat
deriving DecidableEq, Repr

/-- The value128 of a number below 2^128. -/
def value128 (p : Nat) : Value128 := ⟨p / 2 ^ 64, p % 2 ^ 64⟩

/-- The exact product of two unsigned 64-bit numbers (R100). -/
def fullMultiply (a b : Nat) : Value128 := value128 (a * b)

/-- The number of leading zeros of an unsigned 64-bit number, 64 for 0 (R102). -/
def leadingZeros (v : Nat) : Nat := if v = 0 then 64 else 63 - Nat.log2 v

/-- `asr(a, n)` of R9: `floor(a / 2^n)` on a signed integer. Division by a positive number floors. -/
def asr (a : Int) (n : Nat) : Int := a / (2 ^ n : Nat)

end Sys2Proof.Machine
end

