-- ==== Sys2Proof/Machine/BitPrimitives.lean ====
section
/-! DEFINITION. The BitPrimitives family: MUL128, LZC64, DEC8, ISDIG8, ISDIGIT, ISSPACE (spec/40_bit_primitives.md). -/

namespace Sys2Proof.Machine

/-- An ASCII decimal digit: 0x30 to 0x39 (R104). -/
def isDigitCode (c : Nat) : Bool := 0x30 ≤ c && c ≤ 0x39

/-- Every byte of the window is a digit (R108). -/
def windowIsDigits (v : Word) : Bool := (List.range 8).all fun j => isDigitCode (windowByte v j).toNat

/-- The number a window of digits stands for, byte 0 the most significant digit (R105). -/
def windowValue (v : Word) : Nat :=
  ((List.range 8).map fun j => ((windowByte v j).toNat - 0x30) * 10 ^ (7 - j)).sum

/-- `(c − 0x30) mod 2^32` for a 16-bit code unit (R111, R112). -/
def digitValue (c : Nat) : Nat := (c + 2 ^ 32 - 0x30) % 2 ^ 32

/-- The space set (R113, R114). -/
def isSpaceCode (c : Nat) : Bool := [0x09, 0x0A, 0x0B, 0x0C, 0x0D, 0x20].contains c

/-- MUL128 (R100). -/
def execMul128 (rd rd2 rs1 rs2 : Reg) (s : State) : Result :=
  checkDests (encode (.mul128 rd rd2 rs1 rs2)) rd rd2 s
    (complete2 rd rd2 (ofUnsigned (fullMultiply (readU64 s rs1) (readU64 s rs2)).hi)
      (ofUnsigned (fullMultiply (readU64 s rs1) (readU64 s rs2)).lo) s)

/-- LZC64 (R102). -/
def execLzc64 (rd rs1 : Reg) (s : State) : Result :=
  complete1 rd (ofUnsigned (leadingZeros (readU64 s rs1))) s

/-- DEC8 (R105, R107). -/
def execDec8 (rd rs1 : Reg) (s : State) : Result :=
  if windowIsDigits (readWindow s rs1) then complete1 rd (ofUnsigned (windowValue (readWindow s rs1))) s
  else takeFault (encode (.dec8 rd rs1)) .nondigitWindow (readWindow s rs1) s

/-- ISDIG8 (R108). -/
def execIsdig8 (rd rs1 : Reg) (s : State) : Result :=
  complete1 rd (boolWord (windowIsDigits (readWindow s rs1))) s

/-- ISDIGIT (R111, R112). -/
def execIsdigit (rd rd2 rs1 : Reg) (s : State) : Result :=
  checkDests (encode (.isdigit rd rd2 rs1)) rd rd2 s
    (complete2 rd rd2 (boolWord (digitValue (readLow16 s rs1) ≤ 9)) (ofUnsigned (digitValue (readLow16 s rs1))) s)

/-- ISSPACE (R113). -/
def execIsspace (rd rs1 : Reg) (s : State) : Result :=
  complete1 rd (boolWord (isSpaceCode (readLow16 s rs1))) s

end Sys2Proof.Machine
end

