-- ==== Sys2Proof/Machine/Rom.lean ====
section
/-! DEFINITION. The power-of-five ROM, by the generator of spec/20_memory.md R41 to R43 (log entry 14). The listing of R55 is
compared with it in Tests/RomListing.lean. -/

namespace Sys2Proof.Machine

/-- `Q_MIN` (R41). -/
def qMin : Int := -342

/-- `Q_MAX` (R41). -/
def qMax : Int := 308

/-- The last word index of the ROM (R40). -/
def romLast : Nat := 1301

/-- Doubling while below 2^127 and then halving (rounding down) while at or above 2^128 (R42): a shift that puts the
leading one of a positive number at bit 127. -/
def normalise128 (t : Nat) : Nat :=
  if t.log2 < 127 then t <<< (127 - t.log2) else t >>> (t.log2 - 127)

/-- The least `z` with `2^z ≥ p`, for `p ≥ 2` (R43). -/
def ceilLog2 (p : Nat) : Nat := (p - 1).log2 + 1

/-- `P(q)` for `q = n ≥ 0` (R42). -/
def powerUp (n : Nat) : Nat := normalise128 (5 ^ n)

/-- `P(q)` for `q = -n < 0` (R43): the reciprocal of `5^n`, rounded up. -/
def powerDown (n : Nat) : Nat :=
  if n ≤ 27 then 2 ^ (ceilLog2 (5 ^ n) + 127) / 5 ^ n + 1
  else normalise128 (2 ^ (2 * ceilLog2 (5 ^ n) + 128) / 5 ^ n + 1)

/-- `P(q)` (R41 to R43). -/
def powerOfFive (q : Int) : Nat := if 0 ≤ q then powerUp q.toNat else powerDown (-q).toNat

/-- `POW5[k]` for an index 0 to 1301: the high half of `P(q)` at an even index, the low half at an odd one (R41). Every
command checks the index or the exponent before it reads (spec/41_power_tables.md R130, R132; spec/42_eisel_lemire.md
R152). -/
def romWord (k : Nat) : Nat :=
  if k % 2 = 0 then powerOfFive ((k / 2 : Nat) + qMin) / 2 ^ 64 else powerOfFive ((k / 2 : Nat) + qMin) % 2 ^ 64

/-- The index of the high word of `P(q)`: `2(q − Q_MIN)` (R41, spec/42_eisel_lemire.md R154). -/
def romIndex (q : Int) : Nat := (2 * (q - qMin)).toNat

end Sys2Proof.Machine
end

