-- ==== Sys2Proof/Machine/PowerTables.lean ====
section
/-! DEFINITION. The PowerTables family: P5W, P5Q, BEXP (spec/41_power_tables.md). -/

namespace Sys2Proof.Machine

/-- `q` has a row in the ROM (R132, R134). -/
def inTable (q : Int) : Bool := qMin ≤ q && q ≤ qMax

/-- `asr(217706 × q, 16) + 63` (R134, R135). -/
def binaryExponent (q : Int) : Int := asr (217706 * q) 16 + 63

/-- P5W (R130). -/
def execP5w (rd rs1 : Reg) (s : State) : Result :=
  if romLast < readU64 s rs1 then takeFault (encode (.p5w rd rs1)) .tableRange (s.reg rs1) s
  else complete1 rd (ofUnsigned (romWord (readU64 s rs1))) s

/-- P5Q (R132). -/
def execP5q (rd rd2 rs1 : Reg) (s : State) : Result :=
  checkDests (encode (.p5q rd rd2 rs1)) rd rd2 s
    (if inTable (readS64 s rs1) then
      complete2 rd rd2 (ofUnsigned (romWord (romIndex (readS64 s rs1))))
        (ofUnsigned (romWord (romIndex (readS64 s rs1) + 1))) s
    else takeFault (encode (.p5q rd rd2 rs1)) .tableRange (s.reg rs1) s)

/-- BEXP (R134). -/
def execBexp (rd rs1 : Reg) (s : State) : Result :=
  if inTable (readS64 s rs1) then complete1 rd (ofSigned (binaryExponent (readS64 s rs1))) s
  else takeFault (encode (.bexp rd rs1)) .exponentRange (s.reg rs1) s

end Sys2Proof.Machine
end

