-- ==== Sys2Proof/Machine/FastPath.lean ====
section
/-! DEFINITION. The FastPath family: EL64 and EL32, the Eisel–Lemire approximator in twelve stages
(spec/42_eisel_lemire.md R150 to R165). -/

namespace Sys2Proof.Machine

/-- The zero AdjustedMantissa (R166). -/
def amZero : AdjustedMantissa := ⟨0, 0⟩

/-- The infinity AdjustedMantissa of a format (R162, R166). -/
def amInfinity (F : Format) : AdjustedMantissa := ⟨0, F.inf⟩

/-- Stage 1 (R152): the result where the range or a zero mantissa decides it. -/
def saturated (F : Format) (w : Nat) (q : Int) : Option AdjustedMantissa :=
  if w = 0 ∨ q < F.qLo then some amZero
  else if F.qHi < q then some (amInfinity F)
  else none

/-- Stage 2 (R153): the mantissa with its leading one at bit 63. -/
def normalisedMantissa (w : Nat) : Nat := (w <<< leadingZeros w) % 2 ^ 64

/-- Stage 3 (R155): the product with the high word of `P(q)`. -/
def firstProduct (wn : Nat) (q : Int) : Value128 := fullMultiply wn (romWord (romIndex q))

/-- The carry of stage 4 (R156): add `h2` to the low word, and its carry to the high word. -/
def addToLow (p : Value128) (h2 : Nat) : Value128 :=
  if (p.lo + h2) % 2 ^ 64 < h2 then ⟨p.hi + 1, (p.lo + h2) % 2 ^ 64⟩ else ⟨p.hi, (p.lo + h2) % 2 ^ 64⟩

/-- Stage 4 (R156): refine with the low word of `P(q)` where the bits below the rounding point are all ones. -/
def refinedProduct (F : Format) (wn : Nat) (q : Int) (p : Value128) : Value128 :=
  if p.hi &&& formatMask F = formatMask F then addToLow p (fullMultiply wn (romWord (romIndex q + 1))).hi else p

/-- Stage 5 (R157): the product cannot be trusted. -/
def ambiguous (F : Format) (q : Int) (p : Value128) : Bool :=
  p.lo == 2 ^ 64 - 1 && (q < F.safeLo || F.safeHi < q)

/-- `ub` of stage 6: `hi[63]` (R158). -/
def upperBit (p : Value128) : Nat := p.hi / 2 ^ 63 % 2

/-- `sh` of stage 6 (R158). -/
def extractShift (F : Format) (p : Value128) : Nat := upperBit p + 64 - F.eb - 3

/-- `m` of stage 6: `EB + 1` mantissa bits and the round bit (R158). -/
def extractedMantissa (F : Format) (p : Value128) : Nat := p.hi >>> extractShift F p

/-- `p2` of stage 6: the biased exponent before rounding (R158). -/
def extractedPower (F : Format) (w : Nat) (q : Int) (p : Value128) : Int :=
  binaryExponent q + upperBit p - leadingZeros w - F.minExp

/-- Rounding half up on the lowest bit, the round bit (R159, R161). -/
def roundOnLowBit (m : Nat) : Nat := (m + m % 2) >>> 1

/-- Stage 7 (R159): the result when `p2 ≤ 0`. -/
def roundSubnormal (F : Format) (m : Nat) (p2 : Int) : AdjustedMantissa :=
  if 64 ≤ 1 - p2 then amZero
  else
    let r := roundOnLowBit (m >>> (1 - p2).toNat)
    ⟨r, if r < 2 ^ F.eb then 0 else 1⟩

/-- Stage 8 (R160): the round bit is cleared on an exact tie above an even bit. -/
def clearTie (F : Format) (q : Int) (p : Value128) (m : Nat) : Nat :=
  if p.lo ≤ 1 ∧ F.rteLo ≤ q ∧ q ≤ F.rteHi ∧ m % 4 = 1 ∧ (m <<< extractShift F p) % 2 ^ 64 = p.hi then m - 1 else m

/-- Stages 9 to 11 (R161): round, renormalise, overflow. -/
def roundNormal (F : Format) (m : Nat) (p2 : Int) : AdjustedMantissa :=
  let r := roundOnLowBit m
  let am : AdjustedMantissa := if 2 ^ (F.eb + 1) ≤ r then ⟨2 ^ F.eb, p2 + 1⟩ else ⟨r, p2⟩
  if F.inf ≤ am.power2 then amInfinity F else am

/-- Stages 7 to 11 on the product of stages 3 and 4. -/
def roundProduct (F : Format) (w : Nat) (q : Int) (p : Value128) : AdjustedMantissa :=
  if extractedPower F w q p ≤ 0 then roundSubnormal F (extractedMantissa F p) (extractedPower F w q p)
  else roundNormal F (clearTie F q p (extractedMantissa F p)) (extractedPower F w q p)

/-- The product after stage 4. -/
def elProduct (F : Format) (w : Nat) (q : Int) : Value128 :=
  refinedProduct F (normalisedMantissa w) q (firstProduct (normalisedMantissa w) q)

/-- `CORE(F, w, q)`: stages 1 to 11 (R164, R165). -/
def elCore (F : Format) (w : Nat) (q : Int) : Approximation :=
  match saturated F w q with
  | some am => .value am
  | none =>
    if ambiguous F q (elProduct F w q) then .decline else .value (roundProduct F w q (elProduct F w q))

/-- `EL(F, w, q, t)`: stage 12 (R163) on top of `CORE`. The pseudocode is followed at two points where the prose says
otherwise (DEDUCED, unsafe; log entry 9): `w = 0` with `t = 1`; and `w = 2^64 − 1` with `t = 1` where `CORE(F, w, q)` is
already `AM(0, 0)`, which R163's prose calls a decline and its comparison answers `AM(0, 0)`. -/
def elApprox (F : Format) (w : Nat) (q : Int) (t : Bool) : Approximation :=
  if t && elCore F ((w + 1) % 2 ^ 64) q != elCore F w q then .decline else elCore F w q

/-- The mantissa register of an answer; 0 for a decline (R162). -/
def Approximation.mantissaWord : Approximation → Word
  | .decline => 0
  | .value am => ofUnsigned am.mantissa

/-- The power2 register of an answer; −1 for a decline (R162). -/
def Approximation.power2Word : Approximation → Word
  | .decline => ofSigned (-1)
  | .value am => ofSigned am.power2

/-- The answer of EL for the command's operands (R150). -/
def elAnswer (F : Format) (rs1 rs2 rs3 : Reg) (s : State) : Approximation :=
  elApprox F (readU64 s rs1) (readS64 s rs2) (readBit0 s rs3)

/-- EL64 (R164). -/
def execEl64 (rd rd2 rs1 rs2 rs3 : Reg) (s : State) : Result :=
  checkDests (encode (.el64 rd rd2 rs1 rs2 rs3)) rd rd2 s
    (complete2 rd rd2 (elAnswer binary64 rs1 rs2 rs3 s).mantissaWord (elAnswer binary64 rs1 rs2 rs3 s).power2Word s)

/-- EL32 (R165). -/
def execEl32 (rd rd2 rs1 rs2 rs3 : Reg) (s : State) : Result :=
  checkDests (encode (.el32 rd rd2 rs1 rs2 rs3)) rd rd2 s
    (complete2 rd rd2 (elAnswer binary32 rs1 rs2 rs3 s).mantissaWord (elAnswer binary32 rs1 rs2 rs3 s).power2Word s)

end Sys2Proof.Machine
end

