-- ==== Sys2Proof/Machine/Dispatch.lean ====
section
/-! DEFINITION. One arm per command (spec/30_encoding.md R65): the meaning each constructor of `Instr` has. -/

namespace Sys2Proof.Machine

/-- The command's execution in RUN, after it has been decoded (spec/10_state.md R31). The mode is checked before decoding,
by `issue` (spec/60_exceptions.md R213; log entry 8). -/
def exec (i : Instr) (s : State) : Host.Outcome State Fault Refusal :=
  match i with
  | .mul128 rd rd2 rs1 rs2 => Sys2Proof.Machine.execMul128 rd rd2 rs1 rs2 s
  | .lzc64 rd rs1 => Sys2Proof.Machine.execLzc64 rd rs1 s
  | .dec8 rd rs1 => Sys2Proof.Machine.execDec8 rd rs1 s
  | .isdig8 rd rs1 => Sys2Proof.Machine.execIsdig8 rd rs1 s
  | .isdigit rd rd2 rs1 => Sys2Proof.Machine.execIsdigit rd rd2 rs1 s
  | .isspace rd rs1 => Sys2Proof.Machine.execIsspace rd rs1 s
  | .p5w rd rs1 => Sys2Proof.Machine.execP5w rd rs1 s
  | .p5q rd rd2 rs1 => Sys2Proof.Machine.execP5q rd rd2 rs1 s
  | .bexp rd rs1 => Sys2Proof.Machine.execBexp rd rs1 s
  | .el64 rd rd2 rs1 rs2 rs3 => Sys2Proof.Machine.execEl64 rd rd2 rs1 rs2 rs3 s
  | .el32 rd rd2 rs1 rs2 rs3 => Sys2Proof.Machine.execEl32 rd rd2 rs1 rs2 rs3 s
  | .asm64 rd rs1 rs2 rs3 => Sys2Proof.Machine.execAsm64 rd rs1 rs2 rs3 s
  | .asm32 rd rs1 rs2 rs3 => Sys2Proof.Machine.execAsm32 rd rs1 rs2 rs3 s

end Sys2Proof.Machine
end

