-- ==== Sys2Proof/Machine/HostPort.lean ====
section
/-! DEFINITION. The five operations of the host (spec/10_state.md R30) and the mode check of `Issue`
(spec/60_exceptions.md R213). -/

namespace Sys2Proof.Machine

/-- A word presented in RUN: decode, then execute; a word that is no command is ILLEGAL_COMMAND(0) (R31, R66). -/
def runWord (cw : CommandWord) (s : State) : Result :=
  match decode cw with
  | .error _ => takeFault cw .illegalCommand 0 s
  | .ok i => exec i s

/-- `Issue(cw)`: in FAULTED nothing is executed and nothing changes (R30, R213). -/
def issue (cw : CommandWord) (s : State) : Result :=
  match s.mode with
  | .run => runWord cw s
  | .faulted => .next s

/-- `HostWrite(i, v)`, in either mode (R30). -/
def hostWrite (i : Reg) (v : Word) (s : State) : Result := .next (s.setReg i v)

/-- `HostRead(i)`, in either mode (R30). -/
def hostRead (i : Reg) (s : State) : Result := .next { s with replies := .value (s.reg i) :: s.replies }

/-- `ReadStatus()` (R30). -/
def readStatus (s : State) : Result := .next { s with replies := .status s.st s.fcw s.finfo :: s.replies }

/-- `Reset()`, in either mode (R30, R240). -/
def hostReset (s : State) : Result := .next s.resetBlock

/-- One host operation, performed completely (R30). -/
def perform (op : HostOp) (s : State) : Result :=
  match op with
  | .write i v => hostWrite i v s
  | .read i => hostRead i s
  | .issue cw => issue cw s
  | .readStatus => readStatus s
  | .reset => hostReset s

/-- The oldest pending host operation is taken from the list and performed; with none pending the block waits (R241, R243;
log entry 4). -/
def performNext (s : State) : Result :=
  match s.inbox with
  | [] => .next s
  | op :: rest => perform op { s with inbox := rest }

/-- The state with a host operation in front of the others. -/
def State.pending (s : State) (op : HostOp) : State := { s with inbox := op :: s.inbox }

/-- A program has ended: `pc` equals its length, or the block is FAULTED (R22). -/
def programEnded (length : Nat) (s : State) : Bool := s.pc == length || s.mode == .faulted

end Sys2Proof.Machine
end

