-- ==== Sys2Proof/Machine/Step.lean ====
section
/-! DEFINITION. One step: the host's next operation, whole (spec/10_state.md R30, R31). -/

namespace Sys2Proof.Machine

/-- One step of the machine: the next host operation, or waiting when there is none. -/
def step (s : State) : Host.Outcome State Fault Refusal := performNext s

/-- The state whose next step runs the command whose bits are the low `nbits` bits of `w`: FFCORE has no instruction
memory, so the command is the next `Issue` of the host (spec/10_state.md R22, R30; log entry 4). -/
def State.withFetchWord (s : State) (nbits w : Nat) : State :=
  s.pending (.issue (BitVec.ofNat 32 (w % 2 ^ nbits)))

end Sys2Proof.Machine
end

