-- ==== Sys2Proof/Machine/Assembly.lean ====
section
/-! DEFINITION. The written form of commands and preloads (spec/30_encoding.md R70, R71): printing a command, and reading a
line as the host operation it stands for. What blanks and which digits a line may hold is the model's choice (log entry 13). -/

namespace Sys2Proof.Machine

/-- The lower-case mnemonic (R70). -/
def mnemonicText : Mnemonic → List Char
  | .mul128 => ['m', 'u', 'l', '1', '2', '8']
  | .lzc64 => ['l', 'z', 'c', '6', '4']
  | .dec8 => ['d', 'e', 'c', '8']
  | .isdig8 => ['i', 's', 'd', 'i', 'g', '8']
  | .isdigit => ['i', 's', 'd', 'i', 'g', 'i', 't']
  | .isspace => ['i', 's', 's', 'p', 'a', 'c', 'e']
  | .p5w => ['p', '5', 'w']
  | .p5q => ['p', '5', 'q']
  | .bexp => ['b', 'e', 'x', 'p']
  | .el64 => ['e', 'l', '6', '4']
  | .el32 => ['e', 'l', '3', '2']
  | .asm64 => ['a', 's', 'm', '6', '4']
  | .asm32 => ['a', 's', 'm', '3', '2']

/-- A decimal digit as a character. -/
def digitChar (d : Nat) : Char := Char.ofNat (0x30 + d)

/-- `x0` to `x15` (R70). -/
def regText (r : Reg) : List Char :=
  if r.val < 10 then ['x', digitChar r.val] else ['x', '1', digitChar (r.val - 10)]

/-- Operands separated by a comma and a space. -/
def operandsText : List Reg → List Char
  | [] => []
  | [r] => regText r
  | r :: rs => regText r ++ [',', ' '] ++ operandsText rs

/-- The written form of a command: mnemonic, destinations, sources (R70). -/
def asmText (i : Instr) : List Char :=
  mnemonicText i.mnemonic ++ [' '] ++ operandsText (i.dests ++ i.sources)

/-! ### Reading a line -/

/-- A space or a tab. -/
def isBlank (c : Char) : Bool := c == ' ' || c == '\t'

/-- Blanks at both ends dropped. -/
def trimBlanks (cs : List Char) : List Char := ((cs.dropWhile isBlank).reverse.dropWhile isBlank).reverse

/-- The pieces of a text between occurrences of `sep`. -/
def splitAtChar (sep : Char) : List Char → List (List Char)
  | [] => [[]]
  | c :: cs =>
    if c = sep then [] :: splitAtChar sep cs
    else
      match splitAtChar sep cs with
      | [] => [[c]]
      | piece :: pieces => (c :: piece) :: pieces

/-- A register name (R70). -/
def readReg : List Char → Option Reg
  | ['x', d] => if 0x30 ≤ d.toNat ∧ d.toNat ≤ 0x39 then some (Fin.ofNat 16 (d.toNat - 0x30)) else none
  | ['x', '1', d] => if 0x30 ≤ d.toNat ∧ d.toNat ≤ 0x35 then some (Fin.ofNat 16 (d.toNat - 0x26)) else none
  | _ => none

/-- The command with the given mnemonic and operands; the number of operands must be the form's (R70). -/
def instrOfOperands : Mnemonic → List Reg → Option Instr
  | .mul128, [rd, rd2, rs1, rs2] => some (.mul128 rd rd2 rs1 rs2)
  | .lzc64, [rd, rs1] => some (.lzc64 rd rs1)
  | .dec8, [rd, rs1] => some (.dec8 rd rs1)
  | .isdig8, [rd, rs1] => some (.isdig8 rd rs1)
  | .isdigit, [rd, rd2, rs1] => some (.isdigit rd rd2 rs1)
  | .isspace, [rd, rs1] => some (.isspace rd rs1)
  | .p5w, [rd, rs1] => some (.p5w rd rs1)
  | .p5q, [rd, rd2, rs1] => some (.p5q rd rd2 rs1)
  | .bexp, [rd, rs1] => some (.bexp rd rs1)
  | .el64, [rd, rd2, rs1, rs2, rs3] => some (.el64 rd rd2 rs1 rs2 rs3)
  | .el32, [rd, rd2, rs1, rs2, rs3] => some (.el32 rd rd2 rs1 rs2 rs3)
  | .asm64, [rd, rs1, rs2, rs3] => some (.asm64 rd rs1 rs2 rs3)
  | .asm32, [rd, rs1, rs2, rs3] => some (.asm32 rd rs1 rs2 rs3)
  | _, _ => none

/-- A command without its comment (R70). Equal destinations are written and encoded like any others; the block rejects
the word (R67, R72). -/
def readCommand (body : List Char) : Option Instr := do
  let m ← allMnemonics.find? fun m => mnemonicText m == body.takeWhile (fun c => !isBlank c)
  let regs ← ((splitAtChar ',' (body.dropWhile fun c => !isBlank c)).map trimBlanks).mapM readReg
  instrOfOperands m regs

/-- A digit of the given base, 10 or 16. -/
def readDigit (base : Nat) (c : Char) : Option Nat :=
  let v :=
    if 0x30 ≤ c.toNat ∧ c.toNat ≤ 0x39 then c.toNat - 0x30
    else if 0x41 ≤ c.toNat ∧ c.toNat ≤ 0x46 then c.toNat - 0x37
    else if 0x61 ≤ c.toNat ∧ c.toNat ≤ 0x66 then c.toNat - 0x57
    else base
  if v < base then some v else none

/-- The number that digits of a base stand for, the first the most significant. -/
def readDigits (base : Nat) : Nat → List Char → Option Nat
  | acc, [] => some acc
  | acc, c :: cs => (readDigit base c).bind fun d => readDigits base (acc * base + d) cs

/-- A preload's value: hexadecimal after `0x`, else decimal; it must fit in 64 bits (R71, R30). -/
def readValue (cs : List Char) : Option Word :=
  let n :=
    match cs with
    | '0' :: 'x' :: d :: ds => readDigits 16 0 (d :: ds)
    | d :: ds => readDigits 10 0 (d :: ds)
    | [] => none
  n.bind fun v => if v < 2 ^ 64 then some (BitVec.ofNat 64 v) else none

/-- A line of a program as the host operation it stands for: a preload `x<i> = <value>` is `HostWrite` (R71), `Reset()` and
`ReadStatus()` are themselves (R30), and a command is the `Issue` of its word (R70). Everything from `#` on is a comment. -/
def readLine (line : List Char) : Option HostOp :=
  let body := trimBlanks (line.takeWhile fun c => c != '#')
  if body = ['R', 'e', 's', 'e', 't', '(', ')'] then some .reset
  else if body = ['R', 'e', 'a', 'd', 'S', 't', 'a', 't', 'u', 's', '(', ')'] then some .readStatus
  else
    match splitAtChar '=' body with
    | [reg, value] => do
      let r ← readReg (trimBlanks reg)
      let v ← readValue (trimBlanks value)
      some (.write r v)
    | _ => (readCommand body).map fun i => .issue (encode i)

end Sys2Proof.Machine
end

