-- ==== Sys2Proof/Machine/Datapaths.lean ====
section
/-! DEFINITION. The datapaths an implementation may build (spec/00_scope.md R7, spec/70_reset_and_hazards.md R245): the
decomposed multiplier (R101) and the SWAR digit paths (R106, R109). The commands do not use them: the spec says that no
choice can be observed, and the statements say that each equals its rule. Log entry 11. -/

namespace Sys2Proof.Machine

/-- The "4-way 32×32 decomposition" of R101. -/
def decomposedMultiply (a b : Nat) : Value128 :=
  let aH := a / 2 ^ 32
  let aL := a % 2 ^ 32
  let bH := b / 2 ^ 32
  let bL := b % 2 ^ 32
  let ll := aL * bL
  let lh := aL * bH
  let hl := aH * bL
  let hh := aH * bH
  let mid := (ll >>> 32) + lh % 2 ^ 32 + hl % 2 ^ 32
  ⟨hh + (lh >>> 32) + (hl >>> 32) + (mid >>> 32), ((mid % 2 ^ 32) <<< 32) + ll % 2 ^ 32⟩

/-- The SWAR decoding sequence of R106; every step is mod 2^64. -/
def swarDecode (v : Word) : Word :=
  let t1 := ((v &&& 0x0F0F0F0F0F0F0F0F) * 2561) >>> 8
  let t2 := ((t1 &&& 0x00FF00FF00FF00FF) * 6553601) >>> 16
  (((t2 &&& 0x0000FFFF0000FFFF) * 42949672960001) >>> 32) &&& 0x00000000FFFFFFFF

/-- The SWAR digit test of R109, mod 2^64. -/
def swarIsDigits (v : Word) : Bool :=
  let hi := v &&& 0xF0F0F0F0F0F0F0F0
  let adj := (v + 0x0606060606060606) &&& 0xF0F0F0F0F0F0F0F0
  (hi ||| (adj >>> 4)) == 0x3333333333333333

/-- The multiplier that `MUL_IMPL` selects (R7, R101). -/
def builtMultiplier : Config.MulImpl → Nat → Nat → Value128
  | .native => fullMultiply
  | .decomposed => decomposedMultiply

/-- The digit decoder that `SWAR_IMPL` selects (R7); the vector path "gives exactly the results" of the rule (R110). -/
def builtDecoder : Config.SwarImpl → Word → Word
  | .scalar => swarDecode
  | .vector => fun v => ofUnsigned (windowValue v)

/-- The digit test that `SWAR_IMPL` selects (R7, R110). -/
def builtDigitTest : Config.SwarImpl → Word → Bool
  | .scalar => swarIsDigits
  | .vector => windowIsDigits

end Sys2Proof.Machine
end

