-- ==== Sys2Proof/Machine/Instances.lean ====
section
/-! DEFINITION. Several FFCORE instances side by side (spec/10_state.md R34, spec/60_exceptions.md R222): a list of states,
one step of which is one step of one instance. The ROM they share is a constant. Their free values
come from one source, each by the instance's own counter, so equal counters give equal values. Log entry 12. -/

namespace Sys2Proof.Machine

/-- Instance `k` takes one step; an index beyond the list names no instance and nothing happens. -/
def stepInstance (k : Nat) (instances : List State) : Host.Outcome (List State) Fault Refusal :=
  match instances[k]? with
  | none => .next instances
  | some s =>
    match step s with
    | .next t => .next (instances.set k t)
    | .fault r => .fault r
    | .refused r => .refused r

end Sys2Proof.Machine
end

