-- ==== Sys2Proof/Safety.lean ====
section
/-! DEFINITION. The terms the statements use: what a command leaves unchanged, what a fault leaves, which causes a command
can raise, and when the status registers tell the truth (spec/60_exceptions.md R210 to R216). -/

namespace Sys2Proof

open Sys2Proof.Machine

/-- Nothing but general registers and `pc` differs. -/
def SameBesidesRegs (s t : State) : Prop :=
  t.st = s.st ∧ t.fcw = s.fcw ∧ t.finfo = s.finfo ∧ t.mode = s.mode ∧ t.inbox = s.inbox ∧ t.replies = s.replies ∧
    t.free = s.free

/-- The frame of a command that completes: `pc` counts it (R22), the status registers and the mode stay (R23), and no
general register outside `dests` changes (R31). FFCORE has no memory to change (R40). -/
def CompletedFrame (dests : List Reg) (s t : State) : Prop :=
  t.pc = s.pc + 1 ∧ SameBesidesRegs s t ∧ ∀ r, r ∉ dests → t.reg r = s.reg r

/-- The number of a cause (R211). -/
def causeNumber : Cause → Nat
  | .illegalCommand => 1
  | .nondigitWindow => 2
  | .tableRange => 3
  | .exponentRange => 4
  | .amDomain => 5

/-- What taking a fault leaves (R212): `ST = 0x01 + 0x10 × cause`, the command word, the operand value, FAULTED, every general
register and `pc` as before. -/
def FaultTaken (cw : CommandWord) (cause : Cause) (info : Word) (s t : State) : Prop :=
  t.st = BitVec.ofNat 32 (0x01 + 0x10 * causeNumber cause) ∧ t.fcw = cw ∧ t.finfo = info ∧ t.mode = .faulted ∧
    (∀ r, t.reg r = s.reg r) ∧ t.pc = s.pc ∧ t.inbox = s.inbox ∧ t.replies = s.replies ∧ t.free = s.free

/-- Which operand faults a command can raise; ILLEGAL_COMMAND comes before any of them (R216). -/
def operandCauses : Mnemonic → List Cause
  | .mul128 => []
  | .lzc64 => []
  | .dec8 => [.nondigitWindow]
  | .isdig8 => []
  | .isdigit => []
  | .isspace => []
  | .p5w => [.tableRange]
  | .p5q => [.tableRange]
  | .bexp => [.exponentRange]
  | .el64 => []
  | .el32 => []
  | .asm64 => [.amDomain]
  | .asm32 => [.amDomain]

/-- A signed operand outside the exponents of the table (R132, R134). -/
def OutsideTable (v : Word) : Prop := v.toInt < -342 ∨ 308 < v.toInt

/-- Byte `j` of a window, by position (R103). -/
def byteAt (v : Word) (j : Nat) : Nat := v.toNat / 256 ^ j % 256

/-- The eight bytes are ASCII digits (R104, R108). -/
def AllDigits (v : Word) : Prop := ∀ j, j < 8 → 0x30 ≤ byteAt v j ∧ byteAt v j ≤ 0x39

/-- What `FCW` and `FINFO` must hold for a cause to be the right one (the cause column of R211). -/
def FaultExplained (cw : CommandWord) (info : Word) : Cause → Prop
  | .illegalCommand => (∃ e, decode cw = .error e) ∧ info = 0
  | .nondigitWindow => (∃ rd rs1, decode cw = .ok (.dec8 rd rs1)) ∧ ¬ AllDigits info
  | .tableRange =>
    ((∃ rd rs1, decode cw = .ok (.p5w rd rs1)) ∧ 1301 < info.toNat) ∨
      ((∃ rd rd2 rs1, decode cw = .ok (.p5q rd rd2 rs1)) ∧ OutsideTable info)
  | .exponentRange => (∃ rd rs1, decode cw = .ok (.bexp rd rs1)) ∧ OutsideTable info
  | .amDomain =>
    ((∃ rd rs1 rs2 rs3, decode cw = .ok (.asm64 rd rs1 rs2 rs3)) ∧
        (info.toInt < 0 ∨ 2047 < info.toInt ∨ 2 ^ 52 ≤ info.toNat)) ∨
      ((∃ rd rs1 rs2 rs3, decode cw = .ok (.asm32 rd rs1 rs2 rs3)) ∧
        (info.toInt < 0 ∨ 255 < info.toInt ∨ 2 ^ 23 ≤ info.toNat))

/-- The invariant of the status registers: in RUN they are 0, and in FAULTED they name one cause, the word that raised it and
an operand that explains it (R24 to R27, R211 to R213). -/
def StatusTruthful (s : State) : Prop :=
  (s.mode = .run ∧ s.st = 0 ∧ s.fcw = 0 ∧ s.finfo = 0) ∨
    (s.mode = .faulted ∧ ∃ c, s.st = faultStatus c ∧ FaultExplained s.fcw s.finfo c)

/-- A run is safe so far: no command has faulted since reset. -/
def FaultFree (s : State) : Prop := s.mode = .run

end Sys2Proof
end

