-- ==== Sys2Proof/Certificates/Slice0/Obligations.lean ====
section
/-! DEFINITION. The statements for the provers. Each docstring names the rule of spec/ it formalises. The definitions before
them are the statements' own words: a second transcription of the EL pseudocode, the opcode table as R65 prints it, and
what "nearest, ties to even" means. -/

namespace Sys2Proof.Claims

open Sys2Proof.Machine

/-! ### Words of the statements -/

/-- The rows of R65 as printed: match, mask, and whether `RD` and `RD2` must differ. -/
def opcodeRow : Mnemonic → CommandWord × CommandWord × Bool
  | .mul128 => (0x10000000, 0xFF0000FF, true)
  | .lzc64 => (0x11000000, 0xFF0F0FFF, false)
  | .dec8 => (0x20000000, 0xFF0F0FFF, false)
  | .isdig8 => (0x21000000, 0xFF0F0FFF, false)
  | .isdigit => (0x22000000, 0xFF000FFF, true)
  | .isspace => (0x23000000, 0xFF0F0FFF, false)
  | .p5w => (0x30000000, 0xFF0F0FFF, false)
  | .p5q => (0x31000000, 0xFF000FFF, true)
  | .bexp => (0x32000000, 0xFF0F0FFF, false)
  | .el64 => (0x40000000, 0xFF00000F, true)
  | .el32 => (0x41000000, 0xFF00000F, true)
  | .asm64 => (0x50000000, 0xFF0F000F, false)
  | .asm32 => (0x51000000, 0xFF0F000F, false)

/-- The value of a window of digits, byte 0 the most significant (R105). -/
def digitsValue (v : Word) : Nat :=
  (byteAt v 0 - 0x30) * 10000000 + (byteAt v 1 - 0x30) * 1000000 + (byteAt v 2 - 0x30) * 100000 +
    (byteAt v 3 - 0x30) * 10000 + (byteAt v 4 - 0x30) * 1000 + (byteAt v 5 - 0x30) * 100 +
    (byteAt v 6 - 0x30) * 10 + (byteAt v 7 - 0x30)

/-- `CORE(w, q)` of R164 and R165, line by line from the rule's pseudocode; `none` is DECLINE. -/
def pseudoCore (eb : Nat) (minexp inf qlo qhi : Int) (mask : Nat) (rteLo rteHi : Int) (w : Nat) (q : Int) :
    Option (Nat × Int) :=
  if w = 0 ∨ q < qlo then some (0, 0)
  else if q > qhi then some (0, inf)
  else
    let lz := 63 - Nat.log2 w
    let wn := w * 2 ^ lz % 2 ^ 64
    let idx := (2 * (q + 342)).toNat
    let hi0 := wn * romWord idx / 2 ^ 64
    let lo0 := wn * romWord idx % 2 ^ 64
    let h2 := wn * romWord (idx + 1) / 2 ^ 64
    let second : Bool := hi0 &&& mask = mask
    let lo := if second then (lo0 + h2) % 2 ^ 64 else lo0
    let hi := if second ∧ h2 > lo then hi0 + 1 else hi0
    if lo = 2 ^ 64 - 1 ∧ (q < -27 ∨ q > 55) then none
    else
      let ub := hi / 2 ^ 63 % 2
      let sh := ub + 64 - eb - 3
      let m := hi / 2 ^ sh
      let p2 : Int := (217706 * q / 65536 + 63) + ub - lz - minexp
      if p2 ≤ 0 then
        if 1 - p2 ≥ 64 then some (0, 0)
        else
          let m1 := m / 2 ^ (1 - p2).toNat
          let m2 := (m1 + m1 % 2) / 2
          some (m2, if m2 < 2 ^ eb then 0 else 1)
      else
        let m1 := if lo ≤ 1 ∧ rteLo ≤ q ∧ q ≤ rteHi ∧ m % 4 = 1 ∧ m * 2 ^ sh % 2 ^ 64 = hi then m - 1 else m
        let m2 := (m1 + m1 % 2) / 2
        let m3 := if m2 ≥ 2 ^ (eb + 1) then 2 ^ eb else m2
        let p3 := if m2 ≥ 2 ^ (eb + 1) then p2 + 1 else p2
        if p3 ≥ inf then some (0, inf) else some (m3, p3)

/-- The binary64 column of R151. -/
def pseudoCore64 : Nat → Int → Option (Nat × Int) := pseudoCore 52 (-1023) 2047 (-342) 308 0x1FF (-4) 23

/-- The binary32 column of R151. -/
def pseudoCore32 : Nat → Int → Option (Nat × Int) := pseudoCore 23 (-127) 255 (-65) 38 0x3FFFFFFFFF (-17) 10

/-- `EL(w, q, t)` of R164: the mantissa and the power2, `(0, −1)` for a decline. -/
def pseudoEl (core : Nat → Int → Option (Nat × Int)) (w : Nat) (q : Int) (t : Bool) : Nat × Int :=
  match core w q with
  | none => (0, -1)
  | some a => if t = true ∧ core ((w + 1) % 2 ^ 64) q ≠ some a then (0, -1) else a

/-- The five forms of an EL result (R166). -/
def ElForm (eb : Nat) (inf : Int) (m : Nat) (p2 : Int) : Prop :=
  (m = 0 ∧ p2 = 0) ∨ (1 ≤ m ∧ m < 2 ^ eb ∧ p2 = 0) ∨ (2 ^ eb ≤ m ∧ m < 2 ^ (eb + 1) ∧ 1 ≤ p2 ∧ p2 ≤ inf - 1) ∨
    (m = 0 ∧ p2 = inf) ∨ (m = 0 ∧ p2 = -1)

/-- `m × 2^(p2 − bias − eb)` is the normal value nearest to `x`, and the even one of two equally near. The last clause is the
binade boundary, below which values lie twice as close. -/
def NearestEven (eb : Nat) (bias : Int) (x : ℚ) (m : Nat) (p2 : Int) : Prop :=
  2 ^ eb ≤ m ∧ m < 2 ^ (eb + 1) ∧
    |(m : ℚ) * 2 ^ (p2 - bias - eb) - x| ≤ (2 : ℚ) ^ (p2 - bias - eb) / 2 ∧
    (|(m : ℚ) * 2 ^ (p2 - bias - eb) - x| = (2 : ℚ) ^ (p2 - bias - eb) / 2 → m % 2 = 0) ∧
    (m = 2 ^ eb → (m : ℚ) * 2 ^ (p2 - bias - eb) - x ≤ (2 : ℚ) ^ (p2 - bias - eb) / 4)

/-- Operands ASM accepts in a format (R191). -/
def AsmAccepts (eb inf m : Nat) (p2 : Int) : Prop :=
  p2 = inf ∨ (0 ≤ p2 ∧ p2 < inf ∧ m < 2 ^ (eb + 1) ∧ (p2 = 0 → m < 2 ^ eb))

/-- The pattern ASM makes: sign, exponent field, fraction field (R192 to R195). -/
def packedFields (eb width inf m : Nat) (p2 : Int) (sign : Bool) : Nat :=
  sign.toNat * 2 ^ (width - 1) + p2.toNat * 2 ^ eb + if p2 = inf then 0 else m % 2 ^ eb

/-- A state in RUN that is about to be issued a word that decodes to a given command. -/
def Issues (s : State) (cw : CommandWord) (i : Instr) : Prop := s.mode = .run ∧ decode cw = .ok i

end Sys2Proof.Claims

open Sys2Proof Sys2Proof.Machine Sys2Proof.Claims

/-! ### Reset, the host's operations and the step -/

/-- R240: what `Reset()` leaves in the status registers and the mode, from any state. The second clause is about the whole
next state, and so holds by two choices of the model besides: the registers after `Reset()` are free values numbered by the
counter and do not depend on the registers before (log entry 2), and `pc` restarts at 0 (log entry 3). -/
def Obligations.ResetCleansStatusFromEitherMode : Prop :=
  (∀ s : State, ∃ t, step (s.pending .reset) = .next t ∧ t.st = 0 ∧ t.fcw = 0 ∧ t.finfo = 0 ∧ t.mode = .run) ∧
    ∀ s s' : State, s.free = s'.free → s.inbox = s'.inbox → s.replies = s'.replies →
      step (s.pending .reset) = step (s'.pending .reset)

/-- R33: the status registers and the mode of the state after reset, and the host-side `pc` at 0. -/
def Obligations.ResetStateHasCleanStatus : Prop :=
  State.reset.st = 0x00000000 ∧ State.reset.fcw = 0x00000000 ∧ State.reset.finfo = 0x0000000000000000 ∧
    State.reset.mode = .run ∧ State.reset.pc = 0

/-- R30: `HostWrite`, `HostRead` and `ReadStatus` in either mode. -/
def Obligations.HostReadsAndWritesInEitherMode : Prop :=
  (∀ (s : State) (i : Reg) (v : Word), ∃ t, step (s.pending (.write i v)) = .next t ∧ t.reg i = v ∧
      (∀ r, r ≠ i → t.reg r = s.reg r) ∧ t.pc = s.pc ∧ SameBesidesRegs s t) ∧
    (∀ (s : State) (i : Reg),
      step (s.pending (.read i)) = .next { s with replies := .value (s.reg i) :: s.replies }) ∧
    ∀ s : State,
      step (s.pending .readStatus) = .next { s with replies := .status s.st s.fcw s.finfo :: s.replies }

/-- R241 as the model reads it (log entry 4): with no host operation pending, a step changes nothing. -/
def Obligations.BlockWaitsWithNothingPending : Prop := ∀ s : State, s.inbox = [] → step s = .next s

/-- R31: a word issued in RUN that decodes to a command runs that command; a fetch word is such an issue. -/
def Obligations.StepRunsTheDecodedCommand : Prop :=
  (∀ (s : State) (cw : CommandWord) (i : Instr), Issues s cw i → step (s.pending (.issue cw)) = exec i s) ∧
    ∀ (s : State) (w : Nat) (i : Instr), s.mode = .run → decodeTableWord 32 w = some i →
      step (s.withFetchWord 32 w) = exec i s

/-- R66, R68: a word that is no row of the opcode map, or names one register as both destinations, takes ILLEGAL_COMMAND with
`FINFO = 0` when it is issued in RUN. -/
def Obligations.OtherWordsAreIllegalCommands : Prop :=
  ∀ (s : State) (cw : CommandWord), s.mode = .run →
    (∀ m, cw &&& (opcodeRow m).2.1 = (opcodeRow m).1 →
      (opcodeRow m).2.2 = true ∧ cw.toNat / 2 ^ 20 % 16 = cw.toNat / 2 ^ 16 % 16) →
    ∃ t, step (s.pending (.issue cw)) = .next t ∧ FaultTaken cw .illegalCommand 0 s t

/-- R67: a two-destination command with `RD = RD2` is ILLEGAL_COMMAND; no register is written. -/
def Obligations.EqualDestinationsAreIllegal : Prop :=
  ∀ (s : State) (r a b c : Reg) (i : Instr),
    i = .mul128 r r a b ∨ i = .isdigit r r a ∨ i = .p5q r r a ∨ i = .el64 r r a b c ∨ i = .el32 r r a b c →
    (∃ t, exec i s = .next t ∧ FaultTaken (encode i) .illegalCommand 0 s t) ∧
      (s.mode = .run → ∃ t, step (s.pending (.issue (encode i))) = .next t ∧
        FaultTaken (encode i) .illegalCommand 0 s t)

/-- R213: in FAULTED `Issue` changes nothing, the host's other operations work, and only `Reset()` leads back to RUN. -/
def Obligations.FaultedIgnoresCommandsUntilReset : Prop :=
  (∀ (s : State) (cw : CommandWord), s.mode = .faulted → step (s.pending (.issue cw)) = .next s) ∧
    (∀ (s t : State) (op : HostOp), s.mode = .faulted → step (s.pending op) = .next t → op ≠ .reset →
      t.mode = .faulted ∧ t.st = s.st ∧ t.fcw = s.fcw ∧ t.finfo = s.finfo ∧ t.pc = s.pc) ∧
    (∀ s : State, s.mode = .faulted → ∃ t, step (s.pending .reset) = .next t ∧ t.mode = .run) ∧
    ∀ (s : State) (n : Nat), s.mode = .faulted → programEnded n s = true

/-- R22, with log entry 3 for `Reset()`: `pc` grows by one when a command completes, that is, when a word that decodes was
issued in RUN and the block stayed in RUN; it stays in every other step but `Reset()`. The three cases exclude each other. -/
def Obligations.PcCountsCompletedCommands : Prop :=
  ∀ s t : State, step s = .next t →
    (t.pc = s.pc ∧ (∀ rest, s.inbox ≠ .reset :: rest) ∧
        ¬ (t.mode = .run ∧ ∃ cw rest i, s.inbox = .issue cw :: rest ∧ Issues s cw i)) ∨
      ((∃ rest, s.inbox = .reset :: rest) ∧ t.pc = 0) ∨
      (t.pc = s.pc + 1 ∧ t.mode = .run ∧
        ∃ cw rest i, s.inbox = .issue cw :: rest ∧ Issues s cw i)

/-- R247: every step completes; nothing stops the model. -/
def Obligations.EveryStepCompletes : Prop := ∀ s : State, ∃ t, step s = .next t

/-! ### Encoding -/

/-- R62, R65, R67: a word decodes to a command of a mnemonic exactly when it fits that mnemonic's row and, in a two-destination
form, names two registers. -/
def Obligations.DecodingFollowsTheOpcodeMap : Prop :=
  ∀ (cw : CommandWord) (m : Mnemonic),
    (∃ i, decode cw = .ok i ∧ i.mnemonic = m) ↔
      cw &&& (opcodeRow m).2.1 = (opcodeRow m).1 ∧
        ((opcodeRow m).2.2 = true → cw.toNat / 2 ^ 20 % 16 ≠ cw.toNat / 2 ^ 16 % 16)

/-- R61 to R67: decoding the encoding of a well-formed command gives the command back. -/
def Obligations.DecodeAfterEncode : Prop := ∀ i : Instr, i.wellFormed = true → decode (encode i) = .ok i

/-- R61 to R67: a word that decodes is the encoding of what it decodes to, which is well formed. -/
def Obligations.EncodeAfterDecode : Prop :=
  ∀ (cw : CommandWord) (i : Instr), decode cw = .ok i → encode i = cw ∧ i.wellFormed = true

/-- R72, which the spec derives from R61 and R65: the words listed there. -/
def Obligations.ListedWordsDecode : Prop :=
  decode 0x10341200 = .ok (.mul128 3 4 1 2) ∧ decode 0x10561300 = .ok (.mul128 5 6 1 3) ∧
    decode 0x11403000 = .ok (.lzc64 4 3) ∧ decode 0x20301000 = .ok (.dec8 3 1) ∧
    decode 0x21201000 = .ok (.isdig8 2 1) ∧ decode 0x22452000 = .ok (.isdigit 4 5 2) ∧
    decode 0x23301000 = .ok (.isspace 3 1) ∧ decode 0x30804000 = .ok (.p5w 8 4) ∧
    decode 0x31342000 = .ok (.p5q 3 4 2) ∧ decode 0x32702000 = .ok (.bexp 7 2) ∧
    decode 0x40561230 = .ok (.el64 5 6 1 2 3) ∧ decode 0x41451230 = .ok (.el32 4 5 1 2 3) ∧
    decode 0x50705640 = .ok (.asm64 7 5 6 4) ∧ decode 0x51604530 = .ok (.asm32 6 4 5 3) ∧
    decode 0x10331200 = .error .equalDestinations ∧ decode 0x00000000 = .error .unassignedOpcode ∧
    decode 0x11403001 = .error .reservedNonzero

/-- R70, as the model reads a line (log entry 13): the written form of a command stands for the `Issue` of its word. -/
def Obligations.WrittenFormReadsBack : Prop :=
  ∀ i : Instr, readLine (asmText i) = some (.issue (encode i))

/-! ### BitPrimitives -/

/-- R100: MUL128 gives the exact product, high half to RD and low half to RD2. -/
def Obligations.Mul128GivesTheExactProduct : Prop :=
  ∀ (s : State) (rd rd2 rs1 rs2 : Reg), rd ≠ rd2 →
    ∃ t, exec (.mul128 rd rd2 rs1 rs2) s = .next t ∧ CompletedFrame [rd, rd2] s t ∧
      (t.reg rd).toNat * 2 ^ 64 + (t.reg rd2).toNat = (s.reg rs1).toNat * (s.reg rs2).toNat

/-- R102: LZC64 counts leading zeros, 64 for 0. -/
def Obligations.Lzc64CountsLeadingZeros : Prop :=
  ∀ (s : State) (rd rs1 : Reg),
    ∃ t, exec (.lzc64 rd rs1) s = .next t ∧ CompletedFrame [rd] s t ∧
      (s.reg rs1 = 0 → t.reg rd = 64) ∧
      (s.reg rs1 ≠ 0 → ∃ n, n ≤ 63 ∧ t.reg rd = BitVec.ofNat 64 n ∧
        2 ^ (63 - n) ≤ (s.reg rs1).toNat ∧ (s.reg rs1).toNat < 2 ^ (64 - n))

/-- R105, R107: DEC8 decodes eight digits, and faults on any other window. -/
def Obligations.Dec8DecodesDigitsOrFaults : Prop :=
  (∀ (s : State) (rd rs1 : Reg), AllDigits (s.reg rs1) →
      ∃ t, exec (.dec8 rd rs1) s = .next t ∧ CompletedFrame [rd] s t ∧
        t.reg rd = BitVec.ofNat 64 (digitsValue (s.reg rs1))) ∧
    ∀ (s : State) (cw : CommandWord) (rd rs1 : Reg), Issues s cw (.dec8 rd rs1) → ¬ AllDigits (s.reg rs1) →
      ∃ t, step (s.pending (.issue cw)) = .next t ∧ FaultTaken cw .nondigitWindow (s.reg rs1) s t

/-- R108: ISDIG8 is 1 for eight digits and 0 for any other window; it never faults. -/
def Obligations.Isdig8TestsTheWindow : Prop :=
  ∀ (s : State) (rd rs1 : Reg),
    ∃ t, exec (.isdig8 rd rs1) s = .next t ∧ CompletedFrame [rd] s t ∧
      (AllDigits (s.reg rs1) → t.reg rd = 1) ∧ (¬ AllDigits (s.reg rs1) → t.reg rd = 0)

/-- R111, with R112: ISDIGIT gives the flag and `(c − 0x30) mod 2^32` of the low 16 bits. The value where the flag is 0 is
R112's own reading, which a model may leave open; the model takes it (log entry 10). -/
def Obligations.IsdigitGivesFlagAndValue : Prop :=
  ∀ (s : State) (rd rd2 rs1 : Reg), rd ≠ rd2 →
    ∃ t, exec (.isdigit rd rd2 rs1) s = .next t ∧ CompletedFrame [rd, rd2] s t ∧
      ∀ c : Nat, c = (s.reg rs1).toNat % 65536 →
        (0x30 ≤ c ∧ c ≤ 0x39 → t.reg rd = 1 ∧ t.reg rd2 = BitVec.ofNat 64 (c - 0x30)) ∧
        (0x39 < c → t.reg rd = 0 ∧ t.reg rd2 = BitVec.ofNat 64 (c - 0x30)) ∧
        (c < 0x30 → t.reg rd = 0 ∧ t.reg rd2 = BitVec.ofNat 64 (2 ^ 32 + c - 0x30))

/-- R113: ISSPACE is 1 for the six spaces and 0 for any other code. -/
def Obligations.IsspaceTestsTheSixSpaces : Prop :=
  ∀ (s : State) (rd rs1 : Reg),
    ∃ t, exec (.isspace rd rs1) s = .next t ∧ CompletedFrame [rd] s t ∧
      ∀ c : Nat, c = (s.reg rs1).toNat % 65536 →
        ((9 ≤ c ∧ c ≤ 13) ∨ c = 32 → t.reg rd = 1) ∧ (¬ ((9 ≤ c ∧ c ≤ 13) ∨ c = 32) → t.reg rd = 0)

/-- R101: either multiplier gives the product of R100. -/
def Obligations.EitherMultiplierIsExact : Prop :=
  ∀ (impl : Config.MulImpl) (a b : Nat), a < 2 ^ 64 → b < 2 ^ 64 →
    (builtMultiplier impl a b).hi * 2 ^ 64 + (builtMultiplier impl a b).lo = a * b ∧
      (builtMultiplier impl a b).lo < 2 ^ 64

/-- R106, R110: either decoder gives the value of R105 on a window of digits. The content is the SWAR sequence: the vector
path is the rule itself, the model's choice of log entry 11. -/
def Obligations.EitherDecoderReadsDigits : Prop :=
  ∀ (impl : Config.SwarImpl) (v : Word), AllDigits v → builtDecoder impl v = BitVec.ofNat 64 (digitsValue v)

/-- R109, R110: either digit test gives the value of R108 on every window. The content is the masking test: the vector path
is the rule itself, the model's choice of log entry 11. -/
def Obligations.EitherDigitTestIsExact : Prop :=
  ∀ (impl : Config.SwarImpl) (v : Word), builtDigitTest impl v = true ↔ AllDigits v

/-! ### PowerTables -/

/-- R42: `P(q)` for q ≥ 0 is `5^q` with its leading one at bit 127, truncated; up to 27 the low half is 0. -/
def Obligations.RomHoldsNormalisedPowers : Prop :=
  ∀ n : Nat, (∃ e, 2 ^ e ≤ 5 ^ n ∧ 5 ^ n < 2 ^ (e + 1) ∧
      (e ≤ 127 → powerOfFive n = 5 ^ n * 2 ^ (127 - e)) ∧ (127 < e → powerOfFive n = 5 ^ n / 2 ^ (e - 127))) ∧
    (n ≤ 27 → powerOfFive n % 2 ^ 64 = 0)

/-- R43: `P(q)` for q < 0 is the reciprocal of `5^(−q)` rounded up, normalised to 128 bits. The bounds at the end are the
spec's derivation; they pin the number of halvings. -/
def Obligations.RomHoldsNormalisedReciprocals : Prop :=
  ∀ n : Nat, 1 ≤ n →
    (∃ z, 5 ^ n ≤ 2 ^ z ∧ (∀ y, y < z → 2 ^ y < 5 ^ n) ∧
      (n ≤ 27 → powerOfFive (-(n : Int)) = 2 ^ (z + 127) / 5 ^ n + 1) ∧
      (27 < n → ∃ k, powerOfFive (-(n : Int)) = (2 ^ (2 * z + 128) / 5 ^ n + 1) / 2 ^ k)) ∧
    2 ^ 127 ≤ powerOfFive (-(n : Int)) ∧ powerOfFive (-(n : Int)) < 2 ^ 128

/-- R41, R44: every ROM word fits in 64 bits, and every even-indexed one has bit 63 set. -/
def Obligations.RomHighWordsHaveTheTopBit : Prop :=
  ∀ k : Nat, k ≤ 650 → 2 ^ 63 ≤ romWord (2 * k) ∧ romWord (2 * k) < 2 ^ 64 ∧ romWord (2 * k + 1) < 2 ^ 64 ∧
    romWord (2 * k) * 2 ^ 64 + romWord (2 * k + 1) = powerOfFive ((k : Int) - 342)

/-- R130: P5W reads one word of the ROM, and faults beyond index 1301. -/
def Obligations.P5wReadsOneWordOrFaults : Prop :=
  (∀ (s : State) (rd rs1 : Reg), (s.reg rs1).toNat ≤ 1301 →
      ∃ t, exec (.p5w rd rs1) s = .next t ∧ CompletedFrame [rd] s t ∧
        ((s.reg rs1).toNat % 2 = 0 →
          (t.reg rd).toNat = powerOfFive ((s.reg rs1).toNat / 2 - 342) / 2 ^ 64) ∧
        ((s.reg rs1).toNat % 2 = 1 →
          (t.reg rd).toNat = powerOfFive (((s.reg rs1).toNat - 1) / 2 - 342) % 2 ^ 64)) ∧
    ∀ (s : State) (cw : CommandWord) (rd rs1 : Reg), Issues s cw (.p5w rd rs1) → 1301 < (s.reg rs1).toNat →
      ∃ t, step (s.pending (.issue cw)) = .next t ∧ FaultTaken cw .tableRange (s.reg rs1) s t

/-- R132: P5Q reads both words of `P(q)`, and faults on an exponent outside the table. -/
def Obligations.P5qReadsBothWordsOrFaults : Prop :=
  (∀ (s : State) (rd rd2 rs1 : Reg), rd ≠ rd2 → ¬ OutsideTable (s.reg rs1) →
      ∃ t, exec (.p5q rd rd2 rs1) s = .next t ∧ CompletedFrame [rd, rd2] s t ∧
        (t.reg rd).toNat * 2 ^ 64 + (t.reg rd2).toNat = powerOfFive (s.reg rs1).toInt) ∧
    ∀ (s : State) (cw : CommandWord) (rd rd2 rs1 : Reg), Issues s cw (.p5q rd rd2 rs1) →
      OutsideTable (s.reg rs1) →
      ∃ t, step (s.pending (.issue cw)) = .next t ∧ FaultTaken cw .tableRange (s.reg rs1) s t

/-- R134: BEXP gives `asr(217706 q, 16) + 63`, and faults on an exponent outside the table. -/
def Obligations.BexpEstimatesOrFaults : Prop :=
  (∀ (s : State) (rd rs1 : Reg), ¬ OutsideTable (s.reg rs1) →
      ∃ t, exec (.bexp rd rs1) s = .next t ∧ CompletedFrame [rd] s t ∧
        ((t.reg rd).toInt - 63) * 65536 ≤ 217706 * (s.reg rs1).toInt ∧
        217706 * (s.reg rs1).toInt < ((t.reg rd).toInt - 62) * 65536) ∧
    ∀ (s : State) (cw : CommandWord) (rd rs1 : Reg), Issues s cw (.bexp rd rs1) → OutsideTable (s.reg rs1) →
      ∃ t, step (s.pending (.issue cw)) = .next t ∧ FaultTaken cw .exponentRange (s.reg rs1) s t

/-- R136: in the table's range the estimate is `floor(q × log2(10)) + 63` exactly. -/
def Obligations.BexpEstimateIsExactInRange : Prop :=
  ∀ q : Int, -342 ≤ q → q ≤ 308 →
    (2 : ℚ) ^ (binaryExponent q - 63) ≤ 10 ^ q ∧ (10 : ℚ) ^ q < 2 ^ (binaryExponent q - 62)

/-! ### FastPath -/

/-- R164 (its pseudocode; log entry 9): EL64 completes with the answer of the twelve stages. -/
def Obligations.El64ComputesTheTwelveStages : Prop :=
  ∀ (s : State) (rd rd2 rs1 rs2 rs3 : Reg), rd ≠ rd2 →
    ∃ t, exec (.el64 rd rd2 rs1 rs2 rs3) s = .next t ∧ CompletedFrame [rd, rd2] s t ∧
      t.reg rd = BitVec.ofNat 64
        (pseudoEl pseudoCore64 (s.reg rs1).toNat (s.reg rs2).toInt ((s.reg rs3).getLsbD 0)).1 ∧
      t.reg rd2 = BitVec.ofInt 64
        (pseudoEl pseudoCore64 (s.reg rs1).toNat (s.reg rs2).toInt ((s.reg rs3).getLsbD 0)).2

/-- R165 (the pseudocode of R164; log entry 9): EL32 completes with the answer of the twelve stages. -/
def Obligations.El32ComputesTheTwelveStages : Prop :=
  ∀ (s : State) (rd rd2 rs1 rs2 rs3 : Reg), rd ≠ rd2 →
    ∃ t, exec (.el32 rd rd2 rs1 rs2 rs3) s = .next t ∧ CompletedFrame [rd, rd2] s t ∧
      t.reg rd = BitVec.ofNat 64
        (pseudoEl pseudoCore32 (s.reg rs1).toNat (s.reg rs2).toInt ((s.reg rs3).getLsbD 0)).1 ∧
      t.reg rd2 = BitVec.ofInt 64
        (pseudoEl pseudoCore32 (s.reg rs1).toNat (s.reg rs2).toInt ((s.reg rs3).getLsbD 0)).2

/-- R166, which the spec derives from R152 to R163: on every input, EL64's and EL32's results have exactly one of the five
forms. -/
def Obligations.ElResultsHaveOneOfFiveForms : Prop :=
  ∀ (s : State) (rd rd2 rs1 rs2 rs3 : Reg), rd ≠ rd2 →
    (∃ t m p2, exec (.el64 rd rd2 rs1 rs2 rs3) s = .next t ∧ t.reg rd = BitVec.ofNat 64 m ∧
      t.reg rd2 = BitVec.ofInt 64 p2 ∧ ElForm 52 2047 m p2) ∧
    ∃ t m p2, exec (.el32 rd rd2 rs1 rs2 rs3) s = .next t ∧ t.reg rd = BitVec.ofNat 64 m ∧
      t.reg rd2 = BitVec.ofInt 64 p2 ∧ ElForm 23 255 m p2

/-- R152, with stage 12 (R163) as the pseudocode has it (log entry 9, also for `w = 2^64 − 1` below `QLO`): where the range or
a zero mantissa decides the result. -/
def Obligations.ElSaturatesOutsideTheRange : Prop :=
  ∀ (s : State) (rd rd2 rs1 rs2 rs3 : Reg), rd ≠ rd2 →
    ∃ t u, exec (.el64 rd rd2 rs1 rs2 rs3) s = .next t ∧ exec (.el32 rd rd2 rs1 rs2 rs3) s = .next u ∧
      ((s.reg rs2).toInt < -342 → t.reg rd = 0 ∧ t.reg rd2 = 0) ∧
      ((s.reg rs2).toInt < -65 → u.reg rd = 0 ∧ u.reg rd2 = 0) ∧
      ((s.reg rs3).getLsbD 0 = false → s.reg rs1 = 0 →
        t.reg rd = 0 ∧ t.reg rd2 = 0 ∧ u.reg rd = 0 ∧ u.reg rd2 = 0) ∧
      (s.reg rs1 ≠ 0 → (s.reg rs3).getLsbD 0 = false ∨ s.reg rs1 ≠ 0xFFFFFFFFFFFFFFFF →
        (308 < (s.reg rs2).toInt → t.reg rd = 0 ∧ t.reg rd2 = 2047) ∧
        (38 < (s.reg rs2).toInt → u.reg rd = 0 ∧ u.reg rd2 = 255))

/-- R157, R162: without truncation EL does not decline for q in −27..55. -/
def Obligations.ElDecidesInTheSafeWindow : Prop :=
  ∀ (s : State) (rd rd2 rs1 rs2 rs3 : Reg), rd ≠ rd2 → (s.reg rs3).getLsbD 0 = false →
    -27 ≤ (s.reg rs2).toInt → (s.reg rs2).toInt ≤ 55 →
    (∃ t, exec (.el64 rd rd2 rs1 rs2 rs3) s = .next t ∧ t.reg rd2 ≠ 0xFFFFFFFFFFFFFFFF) ∧
      ∃ t, exec (.el32 rd rd2 rs1 rs2 rs3) s = .next t ∧ t.reg rd2 ≠ 0xFFFFFFFFFFFFFFFF

/-- R3, R168, where the table entry is exact: EL64 rounds `w × 10^q` to nearest, ties to even, for q in 0..23. -/
def Obligations.El64RoundsSmallPowersCorrectly : Prop :=
  ∀ (s : State) (rd rd2 rs1 rs2 rs3 : Reg), rd ≠ rd2 → (s.reg rs3).getLsbD 0 = false → s.reg rs1 ≠ 0 →
    0 ≤ (s.reg rs2).toInt → (s.reg rs2).toInt ≤ 23 →
    ∃ t m p2, exec (.el64 rd rd2 rs1 rs2 rs3) s = .next t ∧ t.reg rd = BitVec.ofNat 64 m ∧
      t.reg rd2 = BitVec.ofInt 64 p2 ∧ 1 ≤ p2 ∧ p2 ≤ 2046 ∧
      NearestEven 52 1023 (((s.reg rs1).toNat : ℚ) * 10 ^ (s.reg rs2).toInt) m p2

/-- R3, R168, where the table entry is exact: EL32 rounds `w × 10^q` to nearest, ties to even, for q in 0..10. -/
def Obligations.El32RoundsSmallPowersCorrectly : Prop :=
  ∀ (s : State) (rd rd2 rs1 rs2 rs3 : Reg), rd ≠ rd2 → (s.reg rs3).getLsbD 0 = false → s.reg rs1 ≠ 0 →
    0 ≤ (s.reg rs2).toInt → (s.reg rs2).toInt ≤ 10 →
    ∃ t m p2, exec (.el32 rd rd2 rs1 rs2 rs3) s = .next t ∧ t.reg rd = BitVec.ofNat 64 m ∧
      t.reg rd2 = BitVec.ofInt 64 p2 ∧ 1 ≤ p2 ∧ p2 ≤ 254 ∧
      NearestEven 23 127 (((s.reg rs1).toNat : ℚ) * 10 ^ (s.reg rs2).toInt) m p2

/-! ### Assembler -/

/-- R196: ASM64 packs what it accepts; otherwise AM_DOMAIN, power2 checked first. -/
def Obligations.Asm64PacksOrFaults : Prop :=
  (∀ (s : State) (rd rs1 rs2 rs3 : Reg), AsmAccepts 52 2047 (s.reg rs1).toNat (s.reg rs2).toInt →
      ∃ t, exec (.asm64 rd rs1 rs2 rs3) s = .next t ∧ CompletedFrame [rd] s t ∧
        (t.reg rd).toNat =
          packedFields 52 64 2047 (s.reg rs1).toNat (s.reg rs2).toInt ((s.reg rs3).getLsbD 0)) ∧
    ∀ (s : State) (cw : CommandWord) (rd rs1 rs2 rs3 : Reg), Issues s cw (.asm64 rd rs1 rs2 rs3) →
      ((s.reg rs2).toInt < 0 ∨ 2047 < (s.reg rs2).toInt →
        ∃ t, step (s.pending (.issue cw)) = .next t ∧ FaultTaken cw .amDomain (s.reg rs2) s t) ∧
      (0 ≤ (s.reg rs2).toInt ∧ (s.reg rs2).toInt < 2047 →
        2 ^ 53 ≤ (s.reg rs1).toNat ∨ ((s.reg rs2).toInt = 0 ∧ 2 ^ 52 ≤ (s.reg rs1).toNat) →
        ∃ t, step (s.pending (.issue cw)) = .next t ∧ FaultTaken cw .amDomain (s.reg rs1) s t)

/-- R197: ASM32 packs what it accepts, zero-extended; otherwise AM_DOMAIN, power2 checked first. -/
def Obligations.Asm32PacksOrFaults : Prop :=
  (∀ (s : State) (rd rs1 rs2 rs3 : Reg), AsmAccepts 23 255 (s.reg rs1).toNat (s.reg rs2).toInt →
      ∃ t, exec (.asm32 rd rs1 rs2 rs3) s = .next t ∧ CompletedFrame [rd] s t ∧
        (t.reg rd).toNat =
          packedFields 23 32 255 (s.reg rs1).toNat (s.reg rs2).toInt ((s.reg rs3).getLsbD 0)) ∧
    ∀ (s : State) (cw : CommandWord) (rd rs1 rs2 rs3 : Reg), Issues s cw (.asm32 rd rs1 rs2 rs3) →
      ((s.reg rs2).toInt < 0 ∨ 255 < (s.reg rs2).toInt →
        ∃ t, step (s.pending (.issue cw)) = .next t ∧ FaultTaken cw .amDomain (s.reg rs2) s t) ∧
      (0 ≤ (s.reg rs2).toInt ∧ (s.reg rs2).toInt < 255 →
        2 ^ 24 ≤ (s.reg rs1).toNat ∨ ((s.reg rs2).toInt = 0 ∧ 2 ^ 23 ≤ (s.reg rs1).toNat) →
        ∃ t, step (s.pending (.issue cw)) = .next t ∧ FaultTaken cw .amDomain (s.reg rs1) s t)

/-- R195 with R192 to R194: read by the IEEE-754 layout, an accepted AdjustedMantissa's binary64 pattern is the signed zero or
subnormal, the normal value with its implicit bit, or the signed infinity it stands for. -/
def Obligations.Asm64PatternsReadBack : Prop :=
  ∀ (s t : State) (rd rs1 rs2 rs3 : Reg) (m : Nat) (p2 : Int) (sign : Bool), m = (s.reg rs1).toNat →
    p2 = (s.reg rs2).toInt → sign = (s.reg rs3).getLsbD 0 → AsmAccepts 52 2047 m p2 →
    exec (.asm64 rd rs1 rs2 rs3) s = .next t →
    (p2 = 0 → ieeeDatum binary64 (t.reg rd).toNat = .finite sign m (-1074)) ∧
      (1 ≤ p2 ∧ p2 < 2047 →
        ieeeDatum binary64 (t.reg rd).toNat = .finite sign (2 ^ 52 + m % 2 ^ 52) (p2 - 1075)) ∧
      (p2 = 2047 → ieeeDatum binary64 (t.reg rd).toNat = .infinity sign)

/-- R195 with R192 to R194, for ASM32: it completes on what it accepts, and read by the binary32 layout its pattern is the
signed zero or subnormal, the normal value with its implicit bit, or the signed infinity it stands for. -/
def Obligations.Asm32PatternsReadBack : Prop :=
  ∀ (s : State) (rd rs1 rs2 rs3 : Reg) (m : Nat) (p2 : Int) (sign : Bool), m = (s.reg rs1).toNat →
    p2 = (s.reg rs2).toInt → sign = (s.reg rs3).getLsbD 0 → AsmAccepts 23 255 m p2 →
    ∃ t, exec (.asm32 rd rs1 rs2 rs3) s = .next t ∧
      (p2 = 0 → ieeeDatum binary32 (t.reg rd).toNat = .finite sign m (-149)) ∧
      (1 ≤ p2 ∧ p2 < 255 →
        ieeeDatum binary32 (t.reg rd).toNat = .finite sign (2 ^ 23 + m % 2 ^ 23) (p2 - 150)) ∧
      (p2 = 255 → ieeeDatum binary32 (t.reg rd).toNat = .infinity sign)

/-- R167, R191, R199: after EL64, ASM64 on its two results completes with a pattern that is no NaN, unless EL64 declined, and
then it takes AM_DOMAIN with `FINFO = −1`. -/
def Obligations.Asm64AcceptsEveryEl64Answer : Prop :=
  ∀ (s : State) (rd rd2 rs1 rs2 rs3 r sg : Reg), rd ≠ rd2 →
    ∃ t u, exec (.el64 rd rd2 rs1 rs2 rs3) s = .next t ∧ exec (.asm64 r rd rd2 sg) t = .next u ∧
      (t.reg rd2 ≠ 0xFFFFFFFFFFFFFFFF →
        CompletedFrame [r] t u ∧ ieeeDatum binary64 (u.reg r).toNat ≠ .nan) ∧
      (t.reg rd2 = 0xFFFFFFFFFFFFFFFF →
        FaultTaken (encode (.asm64 r rd rd2 sg)) .amDomain 0xFFFFFFFFFFFFFFFF t u)

/-- R167, R191, R199: the same for EL32 and ASM32. -/
def Obligations.Asm32AcceptsEveryEl32Answer : Prop :=
  ∀ (s : State) (rd rd2 rs1 rs2 rs3 r sg : Reg), rd ≠ rd2 →
    ∃ t u, exec (.el32 rd rd2 rs1 rs2 rs3) s = .next t ∧ exec (.asm32 r rd rd2 sg) t = .next u ∧
      (t.reg rd2 ≠ 0xFFFFFFFFFFFFFFFF →
        CompletedFrame [r] t u ∧ ieeeDatum binary32 (u.reg r).toNat ≠ .nan) ∧
      (t.reg rd2 = 0xFFFFFFFFFFFFFFFF →
        FaultTaken (encode (.asm32 r rd rd2 sg)) .amDomain 0xFFFFFFFFFFFFFFFF t u)

/-! ### The whole machine -/

/-- R210, R212, R214, R216, R23: a command either completes with its frame, or takes one fault of a cause it can raise and
writes no register. -/
def Obligations.CommandsCompleteOrTakeTheirOwnFaults : Prop :=
  ∀ (i : Instr) (s t : State), exec i s = .next t →
    CompletedFrame i.dests s t ∨
      ∃ c info, ((i.wellFormed = false ∧ c = .illegalCommand ∧ info = 0) ∨
        (i.wellFormed = true ∧ c ∈ operandCauses i.mnemonic ∧ ∃ r ∈ i.sources, info = s.reg r)) ∧
        FaultTaken (encode i) c info s t

/-- R24, R25, R26, R27: what the status registers can hold while they are truthful, and how MODE shows in `ST.FLT`. -/
def Obligations.StatusFieldsShowTheMode : Prop :=
  ∀ s : State, StatusTruthful s →
    (s.mode = .faulted ↔ statusFlt s.st = 1) ∧ (s.mode = .run ↔ statusFlt s.st = 0) ∧
      statusReservedZero s.st = true ∧ (statusCause s.st).toNat ≤ 5 ∧
      (statusFlt s.st = 0 → statusCause s.st = 0 ∧ s.fcw = 0 ∧ s.finfo = 0)

/-- R33, R240: the state after reset has truthful status registers. -/
def Obligations.StatusIsTruthfulAfterReset : Prop := StatusTruthful State.reset

/-- R211 to R213: every step keeps the status registers truthful, from any state in which they are. -/
def Obligations.StepsKeepStatusTruthful : Prop :=
  ∀ s t : State, StatusTruthful s → step s = .next t → StatusTruthful t

/-- R29, R31: a command's results, and whether and how it faults, depend on its source registers alone. -/
def Obligations.CommandsDependOnlyOnTheirSources : Prop :=
  ∀ (i : Instr) (s s' t t' : State), (∀ r ∈ i.sources, s.reg r = s'.reg r) →
    exec i s = .next t → exec i s' = .next t' →
    (t.pc = s.pc + 1 ↔ t'.pc = s'.pc + 1) ∧
      (t.pc = s.pc + 1 → ∀ r ∈ i.dests, t.reg r = t'.reg r) ∧
      (t.pc ≠ s.pc + 1 → t.st = t'.st ∧ t.fcw = t'.fcw ∧ t.finfo = t'.finfo)

/-- R246: two commands that use disjoint registers, and complete, may be issued in either order. -/
def Obligations.DisjointCommandsCommute : Prop :=
  ∀ (i j : Instr) (s a b : State),
    (∀ r ∈ i.dests, r ∉ j.dests ∧ r ∉ j.sources) → (∀ r ∈ j.dests, r ∉ i.sources) →
    exec i s = .next a → a.pc = s.pc + 1 → exec j s = .next b → b.pc = s.pc + 1 →
    ∃ u, exec j a = .next u ∧ exec i b = .next u

/-- R34, R222, for instances held in a list (log entry 12): a step of one instance is a step of its own state, and leaves
every other instance as it was. -/
def Obligations.InstancesDoNotInteract : Prop :=
  ∀ (k : Nat) (l l' : List State), stepInstance k l = .next l' →
    (∀ j, j ≠ k → l'[j]? = l[j]?) ∧ ∀ s, l[k]? = some s → ∃ t, step s = .next t ∧ l'[k]? = some t
end

