-- ==== Sys2Proof/Laws/Encoding.lean ====
section
/-! SUPPORT. The fields of a packed command word, and the opcode map read back. -/

namespace Sys2Proof

/-- A packed word as the number its fields make (R61). -/
theorem packWord_toNat (opc : BitVec 8) (rd rd2 rs1 rs2 rs3 : Reg) :
    (packWord opc rd rd2 rs1 rs2 rs3).toNat =
      opc.toNat * 2 ^ 24 + rd.val * 2 ^ 20 + rd2.val * 2 ^ 16 + rs1.val * 2 ^ 12 + rs2.val * 2 ^ 8 + rs3.val * 2 ^ 4 := by
  have ap {n m : Nat} (x : BitVec n) (y : BitVec m) : (x ++ y).toNat = x.toNat * 2 ^ m + y.toNat := by
    rw [BitVec.toNat_append, Nat.shiftLeft_eq, Nat.mul_comm, ← Nat.two_pow_add_eq_or_of_lt y.isLt]
  unfold packWord
  simp only [ap, BitVec.toNat_ofFin, BitVec.toNat_ofNat]
  omega

/-- `OPC` of a packed word. -/
@[simp] theorem fieldOpc_packWord (opc : BitVec 8) (rd rd2 rs1 rs2 rs3 : Reg) :
    fieldOpc (packWord opc rd rd2 rs1 rs2 rs3) = opc := by
  apply BitVec.eq_of_toNat_eq
  simp only [fieldOpc, BitVec.extractLsb'_toNat, packWord_toNat, Nat.shiftRight_eq_div_pow]
  omega

/-- A register field as a number. -/
theorem fieldReg_val (lo : Nat) (cw : CommandWord) : (fieldReg lo cw).val = cw.toNat / 2 ^ lo % 16 := by
  show (cw.extractLsb' lo 4).toNat = _
  simp [BitVec.extractLsb'_toNat, Nat.shiftRight_eq_div_pow]

/-- `RD` of a packed word. -/
@[simp] theorem fieldRd_packWord (opc : BitVec 8) (rd rd2 rs1 rs2 rs3 : Reg) :
    fieldRd (packWord opc rd rd2 rs1 rs2 rs3) = rd := by
  apply Fin.ext
  rw [fieldRd, fieldReg_val, packWord_toNat]
  omega

/-- `RD2` of a packed word. -/
@[simp] theorem fieldRd2_packWord (opc : BitVec 8) (rd rd2 rs1 rs2 rs3 : Reg) :
    fieldRd2 (packWord opc rd rd2 rs1 rs2 rs3) = rd2 := by
  apply Fin.ext
  rw [fieldRd2, fieldReg_val, packWord_toNat]
  omega

/-- `RS1` of a packed word. -/
@[simp] theorem fieldRs1_packWord (opc : BitVec 8) (rd rd2 rs1 rs2 rs3 : Reg) :
    fieldRs1 (packWord opc rd rd2 rs1 rs2 rs3) = rs1 := by
  apply Fin.ext
  rw [fieldRs1, fieldReg_val, packWord_toNat]
  omega

/-- `RS2` of a packed word. -/
@[simp] theorem fieldRs2_packWord (opc : BitVec 8) (rd rd2 rs1 rs2 rs3 : Reg) :
    fieldRs2 (packWord opc rd rd2 rs1 rs2 rs3) = rs2 := by
  apply Fin.ext
  rw [fieldRs2, fieldReg_val, packWord_toNat]
  omega

/-- `RS3` of a packed word. -/
@[simp] theorem fieldRs3_packWord (opc : BitVec 8) (rd rd2 rs1 rs2 rs3 : Reg) :
    fieldRs3 (packWord opc rd rd2 rs1 rs2 rs3) = rs3 := by
  apply Fin.ext
  rw [fieldRs3, fieldReg_val, packWord_toNat]
  omega

/-- The opcode map read back: each opcode names its own mnemonic. -/
@[simp] theorem mnemonicOfOpcode_opcodeOf (m : Mnemonic) : mnemonicOfOpcode (opcodeOf m) = some m := by
  cases m <;> decide

/-- A mnemonic comes only from its own opcode. -/
theorem opcodeOf_of_mnemonicOfOpcode {opc : BitVec 8} {m : Mnemonic} (h : mnemonicOfOpcode opc = some m) :
    opcodeOf m = opc := by
  simpa using List.find?_some h

end Sys2Proof
end

