-- ==== Sys2Proof/Laws/State.lean ====
section
/-! SUPPORT. One lemma per field per update of State, and the register read after each. -/

namespace Sys2Proof.Machine

/-! ### setReg -/

@[simp] theorem State.setReg_st (s : State) (r : Reg) (v : Word) : (s.setReg r v).st = s.st := rfl
@[simp] theorem State.setReg_fcw (s : State) (r : Reg) (v : Word) : (s.setReg r v).fcw = s.fcw := rfl
@[simp] theorem State.setReg_finfo (s : State) (r : Reg) (v : Word) : (s.setReg r v).finfo = s.finfo := rfl
@[simp] theorem State.setReg_mode (s : State) (r : Reg) (v : Word) : (s.setReg r v).mode = s.mode := rfl
@[simp] theorem State.setReg_pc (s : State) (r : Reg) (v : Word) : (s.setReg r v).pc = s.pc := rfl
@[simp] theorem State.setReg_inbox (s : State) (r : Reg) (v : Word) : (s.setReg r v).inbox = s.inbox := rfl
@[simp] theorem State.setReg_replies (s : State) (r : Reg) (v : Word) : (s.setReg r v).replies = s.replies := rfl
@[simp] theorem State.setReg_free (s : State) (r : Reg) (v : Word) : (s.setReg r v).free = s.free := rfl

theorem State.reg_setReg (s : State) (r q : Reg) (v : Word) :
    (s.setReg r v).reg q = if q = r then v else s.reg q := by
  unfold State.setReg State.reg
  by_cases h : q = r
  · subst h; simp [Vector.get_eq_getElem]
  · have h' : ¬ r.val = q.val := fun e => h (Fin.ext e.symm)
    simp [Vector.get_eq_getElem, h, h']

@[simp] theorem State.reg_setReg_self (s : State) (r : Reg) (v : Word) : (s.setReg r v).reg r = v := by
  simp [State.reg_setReg]

theorem State.reg_setReg_ne (s : State) {r q : Reg} (v : Word) (h : q ≠ r) : (s.setReg r v).reg q = s.reg q := by
  simp [State.reg_setReg, h]

/-- Two states agree when every field does, the registers one by one. -/
theorem State.ext_regs {s t : State} (regs : ∀ r, s.reg r = t.reg r) (st : s.st = t.st) (fcw : s.fcw = t.fcw)
    (finfo : s.finfo = t.finfo) (mode : s.mode = t.mode) (pc : s.pc = t.pc) (inbox : s.inbox = t.inbox)
    (replies : s.replies = t.replies) (free : s.free = t.free) : s = t := by
  have h : s.regs = t.regs := by
    apply Vector.ext
    intro i hi
    simpa [State.reg, Vector.get_eq_getElem] using regs ⟨i, hi⟩
  cases s; cases t; simp_all

/-! ### advance -/

@[simp] theorem State.advance_st (s : State) : s.advance.st = s.st := rfl
@[simp] theorem State.advance_fcw (s : State) : s.advance.fcw = s.fcw := rfl
@[simp] theorem State.advance_finfo (s : State) : s.advance.finfo = s.finfo := rfl
@[simp] theorem State.advance_mode (s : State) : s.advance.mode = s.mode := rfl
@[simp] theorem State.advance_pc (s : State) : s.advance.pc = s.pc + 1 := rfl
@[simp] theorem State.advance_inbox (s : State) : s.advance.inbox = s.inbox := rfl
@[simp] theorem State.advance_replies (s : State) : s.advance.replies = s.replies := rfl
@[simp] theorem State.advance_free (s : State) : s.advance.free = s.free := rfl
@[simp] theorem State.reg_advance (s : State) (r : Reg) : s.advance.reg r = s.reg r := rfl

/-! ### raised -/

@[simp] theorem State.raised_st (s : State) (cw : CommandWord) (c : Cause) (v : Word) :
    (s.raised cw c v).st = faultStatus c := rfl
@[simp] theorem State.raised_fcw (s : State) (cw : CommandWord) (c : Cause) (v : Word) :
    (s.raised cw c v).fcw = cw := rfl
@[simp] theorem State.raised_finfo (s : State) (cw : CommandWord) (c : Cause) (v : Word) :
    (s.raised cw c v).finfo = v := rfl
@[simp] theorem State.raised_mode (s : State) (cw : CommandWord) (c : Cause) (v : Word) :
    (s.raised cw c v).mode = .faulted := rfl
@[simp] theorem State.raised_pc (s : State) (cw : CommandWord) (c : Cause) (v : Word) :
    (s.raised cw c v).pc = s.pc := rfl
@[simp] theorem State.raised_inbox (s : State) (cw : CommandWord) (c : Cause) (v : Word) :
    (s.raised cw c v).inbox = s.inbox := rfl
@[simp] theorem State.raised_replies (s : State) (cw : CommandWord) (c : Cause) (v : Word) :
    (s.raised cw c v).replies = s.replies := rfl
@[simp] theorem State.raised_free (s : State) (cw : CommandWord) (c : Cause) (v : Word) :
    (s.raised cw c v).free = s.free := rfl
@[simp] theorem State.reg_raised (s : State) (cw : CommandWord) (c : Cause) (v : Word) (r : Reg) :
    (s.raised cw c v).reg r = s.reg r := rfl

/-! ### resetBlock -/

@[simp] theorem State.resetBlock_st (s : State) : s.resetBlock.st = 0 := rfl
@[simp] theorem State.resetBlock_fcw (s : State) : s.resetBlock.fcw = 0 := rfl
@[simp] theorem State.resetBlock_finfo (s : State) : s.resetBlock.finfo = 0 := rfl
@[simp] theorem State.resetBlock_mode (s : State) : s.resetBlock.mode = .run := rfl
@[simp] theorem State.resetBlock_pc (s : State) : s.resetBlock.pc = 0 := rfl
@[simp] theorem State.resetBlock_inbox (s : State) : s.resetBlock.inbox = s.inbox := rfl
@[simp] theorem State.resetBlock_replies (s : State) : s.resetBlock.replies = s.replies := rfl
@[simp] theorem State.resetBlock_free (s : State) : s.resetBlock.free = s.free + 16 := rfl
@[simp] theorem State.reg_resetBlock (s : State) (r : Reg) : s.resetBlock.reg r = Config.freeWord (s.free + r.val) := by
  simp [State.resetBlock, State.reg, Vector.get_eq_getElem]

/-! ### completed1 and completed2 -/

@[simp] theorem State.completed1_st (s : State) (rd : Reg) (v : Word) : (s.completed1 rd v).st = s.st := rfl
@[simp] theorem State.completed1_fcw (s : State) (rd : Reg) (v : Word) : (s.completed1 rd v).fcw = s.fcw := rfl
@[simp] theorem State.completed1_finfo (s : State) (rd : Reg) (v : Word) : (s.completed1 rd v).finfo = s.finfo := rfl
@[simp] theorem State.completed1_mode (s : State) (rd : Reg) (v : Word) : (s.completed1 rd v).mode = s.mode := rfl
@[simp] theorem State.completed1_pc (s : State) (rd : Reg) (v : Word) : (s.completed1 rd v).pc = s.pc + 1 := rfl
@[simp] theorem State.completed1_inbox (s : State) (rd : Reg) (v : Word) : (s.completed1 rd v).inbox = s.inbox := rfl
@[simp] theorem State.completed1_replies (s : State) (rd : Reg) (v : Word) :
    (s.completed1 rd v).replies = s.replies := rfl
@[simp] theorem State.completed1_free (s : State) (rd : Reg) (v : Word) : (s.completed1 rd v).free = s.free := rfl

theorem State.reg_completed1 (s : State) (rd q : Reg) (v : Word) :
    (s.completed1 rd v).reg q = if q = rd then v else s.reg q := State.reg_setReg s rd q v

@[simp] theorem State.completed2_st (s : State) (rd rd2 : Reg) (v v2 : Word) :
    (s.completed2 rd rd2 v v2).st = s.st := rfl
@[simp] theorem State.completed2_fcw (s : State) (rd rd2 : Reg) (v v2 : Word) :
    (s.completed2 rd rd2 v v2).fcw = s.fcw := rfl
@[simp] theorem State.completed2_finfo (s : State) (rd rd2 : Reg) (v v2 : Word) :
    (s.completed2 rd rd2 v v2).finfo = s.finfo := rfl
@[simp] theorem State.completed2_mode (s : State) (rd rd2 : Reg) (v v2 : Word) :
    (s.completed2 rd rd2 v v2).mode = s.mode := rfl
@[simp] theorem State.completed2_pc (s : State) (rd rd2 : Reg) (v v2 : Word) :
    (s.completed2 rd rd2 v v2).pc = s.pc + 1 := rfl
@[simp] theorem State.completed2_inbox (s : State) (rd rd2 : Reg) (v v2 : Word) :
    (s.completed2 rd rd2 v v2).inbox = s.inbox := rfl
@[simp] theorem State.completed2_replies (s : State) (rd rd2 : Reg) (v v2 : Word) :
    (s.completed2 rd rd2 v v2).replies = s.replies := rfl
@[simp] theorem State.completed2_free (s : State) (rd rd2 : Reg) (v v2 : Word) :
    (s.completed2 rd rd2 v v2).free = s.free := rfl

theorem State.reg_completed2 (s : State) (rd rd2 q : Reg) (v v2 : Word) :
    (s.completed2 rd rd2 v v2).reg q = if q = rd2 then v2 else if q = rd then v else s.reg q := by
  simp [State.completed2, State.reg_setReg]

/-! ### pending -/

@[simp] theorem State.pending_st (s : State) (op : HostOp) : (s.pending op).st = s.st := rfl
@[simp] theorem State.pending_fcw (s : State) (op : HostOp) : (s.pending op).fcw = s.fcw := rfl
@[simp] theorem State.pending_finfo (s : State) (op : HostOp) : (s.pending op).finfo = s.finfo := rfl
@[simp] theorem State.pending_mode (s : State) (op : HostOp) : (s.pending op).mode = s.mode := rfl
@[simp] theorem State.pending_pc (s : State) (op : HostOp) : (s.pending op).pc = s.pc := rfl
@[simp] theorem State.pending_inbox (s : State) (op : HostOp) : (s.pending op).inbox = op :: s.inbox := rfl
@[simp] theorem State.pending_replies (s : State) (op : HostOp) : (s.pending op).replies = s.replies := rfl
@[simp] theorem State.pending_free (s : State) (op : HostOp) : (s.pending op).free = s.free := rfl
@[simp] theorem State.reg_pending (s : State) (op : HostOp) (r : Reg) : (s.pending op).reg r = s.reg r := rfl

end Sys2Proof.Machine
end

