-- ==== Sys2Proof/Laws/Ops.lean ====
section
/-! SUPPORT. Once for each shared operation, everything it can do. -/

namespace Sys2Proof.Machine

/-- A one-result completion has the frame of its destination and puts the value there. -/
theorem completed1_frame (s : State) (rd : Reg) (v : Word) :
    (s.completed1 rd v).reg rd = v ∧ CompletedFrame [rd] s (s.completed1 rd v) := by
  refine ⟨by simp [State.reg_completed1], by simp, by simp [SameBesidesRegs], ?_⟩
  intro r hr
  rw [State.reg_completed1, if_neg (by simpa using hr)]

/-- A two-result completion has the frame of its destinations and puts the values there. -/
theorem completed2_frame (s : State) {rd rd2 : Reg} (v v2 : Word) (h : rd ≠ rd2) :
    (s.completed2 rd rd2 v v2).reg rd = v ∧ (s.completed2 rd rd2 v v2).reg rd2 = v2 ∧
      CompletedFrame [rd, rd2] s (s.completed2 rd rd2 v v2) := by
  refine ⟨by simp [State.reg_completed2, h], by simp [State.reg_completed2], by simp, by simp [SameBesidesRegs], ?_⟩
  intro r hr
  have hr' : ¬ r = rd ∧ ¬ r = rd2 := by simpa using hr
  rw [State.reg_completed2, if_neg hr'.2, if_neg hr'.1]

/-- `ST` after a fault is `0x01 + 0x10 × cause` (R212). -/
theorem faultStatus_eq (c : Cause) : faultStatus c = BitVec.ofNat 32 (0x01 + 0x10 * causeNumber c) := by
  cases c <;> decide

/-- Taking a fault leaves what R212 says. -/
theorem raised_faultTaken (s : State) (cw : CommandWord) (c : Cause) (info : Word) :
    FaultTaken cw c info s (s.raised cw c info) := by
  simp [FaultTaken, faultStatus_eq]

/-- The two-destination check: the fault of R67, or the body. -/
theorem checkDests_eq (cw : CommandWord) (rd rd2 : Reg) (s : State) (body : Result) :
    (rd = rd2 ∧ checkDests cw rd rd2 s body = .next (s.raised cw .illegalCommand 0)) ∨
      (rd ≠ rd2 ∧ checkDests cw rd rd2 s body = body) := by
  by_cases h : rd = rd2
  · exact .inl ⟨h, if_pos h⟩
  · exact .inr ⟨h, if_neg h⟩

/-- With different destinations the check does nothing. -/
@[simp] theorem checkDests_of_ne {rd rd2 : Reg} (h : rd ≠ rd2) (cw : CommandWord) (s : State) (body : Result) :
    checkDests cw rd rd2 s body = body := if_neg h

/-- With equal destinations the check faults. -/
@[simp] theorem checkDests_self (cw : CommandWord) (rd : Reg) (s : State) (body : Result) :
    checkDests cw rd rd s body = .next (s.raised cw .illegalCommand 0) := if_pos rfl

/-- ASM in either format takes one of two faults or completes. -/
theorem runAsm_cases (F : Format) (cw : CommandWord) (rd rs1 rs2 rs3 : Reg) (s : State) :
    (asmCheck F (readU64 s rs1) (readS64 s rs2) = .badPower2 ∧
        runAsm F cw rd rs1 rs2 rs3 s = .next (s.raised cw .amDomain (s.reg rs2))) ∨
      (asmCheck F (readU64 s rs1) (readS64 s rs2) = .badMantissa ∧
        runAsm F cw rd rs1 rs2 rs3 s = .next (s.raised cw .amDomain (s.reg rs1))) ∨
      (asmCheck F (readU64 s rs1) (readS64 s rs2) = .accept ∧
        runAsm F cw rd rs1 rs2 rs3 s = .next (s.completed1 rd
          (ofUnsigned (packIeee F (readU64 s rs1) (readS64 s rs2) (readBit0 s rs3))))) := by
  cases h : asmCheck F (readU64 s rs1) (readS64 s rs2) <;> simp [runAsm, h, takeFault, complete1]

/-- The verdict of the checks of R191, once for each outcome. -/
theorem asmCheck_cases (F : Format) (m : Nat) (p2 : Int) :
    (asmCheck F m p2 = .badPower2 ∧ (p2 < 0 ∨ (F.inf : Int) < p2)) ∨
      (asmCheck F m p2 = .badMantissa ∧ 0 ≤ p2 ∧ p2 < F.inf ∧
        (2 ^ (F.eb + 1) ≤ m ∨ (p2 = 0 ∧ 2 ^ F.eb ≤ m))) ∨
      (asmCheck F m p2 = .accept ∧ 0 ≤ p2 ∧ p2 ≤ F.inf ∧
        (p2 = F.inf ∨ (m < 2 ^ (F.eb + 1) ∧ (p2 = 0 → m < 2 ^ F.eb)))) := by
  unfold asmCheck
  split
  · simp_all
  · rename_i h1
    split
    · rename_i h2
      simp [h2]
    · rename_i h2
      split
      · rename_i h3
        simp only [reduceCtorEq, false_and, true_and, false_or, or_false]
        omega
      · rename_i h3
        split
        · rename_i h4
          simp only [reduceCtorEq, false_and, true_and, false_or, or_false]
          omega
        · rename_i h4
          simp only [reduceCtorEq, false_and, true_and, false_or]
          refine ⟨by omega, by omega, .inr ⟨by omega, fun h => ?_⟩⟩
          by_contra h5
          exact h4 ⟨h, by omega⟩

/-- `Issue` in RUN is the execution of the word; in FAULTED nothing happens (R213). -/
theorem issue_cases (cw : CommandWord) (s : State) :
    (s.mode = .run ∧ issue cw s = runWord cw s) ∨ (s.mode = .faulted ∧ issue cw s = .next s) := by
  cases h : s.mode <;> simp [issue, h]

/-- A word in RUN is a command that executes or ILLEGAL_COMMAND (R66). -/
theorem runWord_cases (cw : CommandWord) (s : State) :
    (∃ i, decode cw = .ok i ∧ runWord cw s = exec i s) ∨
      (∃ e, decode cw = .error e ∧ runWord cw s = .next (s.raised cw .illegalCommand 0)) := by
  cases h : decode cw <;> simp [runWord, h, takeFault]

/-- A pending operation in front is taken and performed on the state behind it. -/
@[simp] theorem performNext_pending (s : State) (op : HostOp) : performNext (s.pending op) = perform op s := rfl

/-- Every step waits or performs the host's oldest operation. -/
theorem performNext_cases (s : State) :
    (s.inbox = [] ∧ performNext s = .next s) ∨
      ∃ op rest, s.inbox = op :: rest ∧ performNext s = perform op { s with inbox := rest } := by
  cases h : s.inbox with
  | nil => exact .inl ⟨rfl, by simp [performNext, h]⟩
  | cons op rest => exact .inr ⟨op, rest, rfl, by simp [performNext, h]⟩

/-- `CORE` saturates, declines or rounds (R164). -/
theorem elCore_cases (F : Format) (w : Nat) (q : Int) :
    (∃ am, saturated F w q = some am ∧ elCore F w q = .value am) ∨
      (saturated F w q = none ∧ ambiguous F q (elProduct F w q) = true ∧ elCore F w q = .decline) ∨
      (saturated F w q = none ∧ ambiguous F q (elProduct F w q) = false ∧
        elCore F w q = .value (roundProduct F w q (elProduct F w q))) := by
  unfold elCore
  cases h : saturated F w q with
  | some am => exact .inl ⟨am, rfl, rfl⟩
  | none => cases h2 : ambiguous F q (elProduct F w q) <;> simp

/-- Stage 1 in full (R152). -/
theorem saturated_cases (F : Format) (w : Nat) (q : Int) :
    ((w = 0 ∨ q < F.qLo) ∧ saturated F w q = some amZero) ∨
      (w ≠ 0 ∧ F.qLo ≤ q ∧ F.qHi < q ∧ saturated F w q = some (amInfinity F)) ∨
      (w ≠ 0 ∧ F.qLo ≤ q ∧ q ≤ F.qHi ∧ saturated F w q = none) := by
  unfold saturated
  by_cases h1 : w = 0 ∨ q < F.qLo
  · exact .inl ⟨h1, if_pos h1⟩
  · rw [if_neg h1]
    by_cases h2 : F.qHi < q
    · exact .inr (.inl ⟨by omega, by omega, h2, if_pos h2⟩)
    · exact .inr (.inr ⟨by omega, by omega, by omega, if_neg h2⟩)

/-- The flooring shift is the greatest integer not above the quotient (R9). -/
theorem asr_spec (a : Int) (n : Nat) : asr a n * (2 ^ n : Nat) ≤ a ∧ a < (asr a n + 1) * (2 ^ n : Nat) := by
  have h : (0 : Int) < (2 ^ n : Nat) := by positivity
  constructor
  · exact Int.ediv_mul_le a (ne_of_gt h)
  · exact Int.lt_ediv_add_one_mul_self a h

/-- The halves of a product put together again. -/
theorem fullMultiply_eq (a b : Nat) : (fullMultiply a b).hi * 2 ^ 64 + (fullMultiply a b).lo = a * b := by
  simp only [fullMultiply, value128]
  omega

/-- The low half is a 64-bit number. -/
theorem fullMultiply_lo_lt (a b : Nat) : (fullMultiply a b).lo < 2 ^ 64 := Nat.mod_lt _ (by norm_num)

end Sys2Proof.Machine
end

