-- ==== Sys2Proof/Laws/PerInstr.lean ====
section
/-! SUPPORT. Families of lemmas with one lemma per constructor of `Instr`. -/

/-! ### EncodesItsOpcode: the OPC field of a command's word is its mnemonic's opcode (R61, R65) -/

namespace Sys2Proof.Laws.EncodesItsOpcode

/-- `OPC` of the encoding is the mnemonic's. -/
def Statement (i : Instr) : Prop := fieldOpc (encode i) = opcodeOf i.mnemonic

theorem mul128 (rd rd2 rs1 rs2 : Reg) : Statement (.mul128 rd rd2 rs1 rs2) := fieldOpc_packWord ..
theorem lzc64 (rd rs1 : Reg) : Statement (.lzc64 rd rs1) := fieldOpc_packWord ..
theorem dec8 (rd rs1 : Reg) : Statement (.dec8 rd rs1) := fieldOpc_packWord ..
theorem isdig8 (rd rs1 : Reg) : Statement (.isdig8 rd rs1) := fieldOpc_packWord ..
theorem isdigit (rd rd2 rs1 : Reg) : Statement (.isdigit rd rd2 rs1) := fieldOpc_packWord ..
theorem isspace (rd rs1 : Reg) : Statement (.isspace rd rs1) := fieldOpc_packWord ..
theorem p5w (rd rs1 : Reg) : Statement (.p5w rd rs1) := fieldOpc_packWord ..
theorem p5q (rd rd2 rs1 : Reg) : Statement (.p5q rd rd2 rs1) := fieldOpc_packWord ..
theorem bexp (rd rs1 : Reg) : Statement (.bexp rd rs1) := fieldOpc_packWord ..
theorem el64 (rd rd2 rs1 rs2 rs3 : Reg) : Statement (.el64 rd rd2 rs1 rs2 rs3) := fieldOpc_packWord ..
theorem el32 (rd rd2 rs1 rs2 rs3 : Reg) : Statement (.el32 rd rd2 rs1 rs2 rs3) := fieldOpc_packWord ..
theorem asm64 (rd rs1 rs2 rs3 : Reg) : Statement (.asm64 rd rs1 rs2 rs3) := fieldOpc_packWord ..
theorem asm32 (rd rs1 rs2 rs3 : Reg) : Statement (.asm32 rd rs1 rs2 rs3) := fieldOpc_packWord ..

end Sys2Proof.Laws.EncodesItsOpcode
end

