-- ==== Sys2Proof/Tests/RomListing.lean ====
section
/-! SUPPORT. The listing of spec/20_memory.md R55, row by row (each number is a row's high word followed by its low word), and
its equality with the ROM of Machine/Rom.lean. -/

namespace Sys2Proof.Tests

-- The theorems of this file are checked one after another: each is a closed evaluation, and side by
-- side they would ask for more threads than a small machine has.
set_option Elab.async false

/-- The rows for q from -342 to -312. -/
def romRows0 : List Nat := [
  0xEEF453D6923BD65A113FAA2906A13B3F,
  0x9558B4661B6565F84AC7CA59A424C507,
  0xBAAEE17FA23EBF765D79BCF00D2DF649,
  0xE95A99DF8ACE6F53F4D82C2C107973DC,
  0x91D8A02BB6C1059479071B9B8A4BE869,
  0xB64EC836A47146F99748E2826CDEE284,
  0xE3E27A444D8D98B7FD1B1B2308169B25,
  0x8E6D8C6AB0787F72FE30F0F5E50E20F7,
  0xB208EF855C969F4FBDBD2D335E51A935,
  0xDE8B2B66B3BC4723AD2C788035E61382,
  0x8B16FB203055AC764C3BCB5021AFCC31,
  0xADDCB9E83C6B1793DF4ABE242A1BBF3D,
  0xD953E8624B85DD78D71D6DAD34A2AF0D,
  0x87D4713D6F33AA6B8672648C40E5AD68,
  0xA9C98D8CCB009506680EFDAF511F18C2,
  0xD43BF0EFFDC0BA480212BD1B2566DEF2,
  0x84A57695FE98746D014BB630F7604B57,
  0xA5CED43B7E3E9188419EA3BD35385E2D,
  0xCF42894A5DCE35EA52064CAC828675B9,
  0x818995CE7AA0E1B27343EFEBD1940993,
  0xA1EBFB4219491A1F1014EBE6C5F90BF8,
  0xCA66FA129F9B60A6D41A26E077774EF6,
  0xFD00B897478238D08920B098955522B4,
  0x9E20735E8CB1638255B46E5F5D5535B0,
  0xC5A890362FDDBC62EB2189F734AA831D,
  0xF712B443BBD52B7BA5E9EC7501D523E4,
  0x9A6BB0AA55653B2D47B233C92125366E,
  0xC1069CD4EABE89F8999EC0BB696E840A,
  0xF148440A256E2C76C00670EA43CA250D,
  0x96CD2A865764DBCA380406926A5E5728,
  0xBC807527ED3E12BCC605083704F5ECF2]

/-- The rows for q from -311 to -281. -/
def romRows1 : List Nat := [
  0xEBA09271E88D976BF7864A44C633682E,
  0x93445B8731587EA37AB3EE6AFBE0211D,
  0xB8157268FDAE9E4C5960EA05BAD82964,
  0xE61ACF033D1A45DF6FB92487298E33BD,
  0x8FD0C16206306BABA5D3B6D479F8E056,
  0xB3C4F1BA87BC86968F48A4899877186C,
  0xE0B62E2929ABA83C331ACDABFE94DE87,
  0x8C71DCD9BA0B49259FF0C08B7F1D0B14,
  0xAF8E5410288E1B6F07ECF0AE5EE44DD9,
  0xDB71E91432B1A24AC9E82CD9F69D6150,
  0x892731AC9FAF056EBE311C083A225CD2,
  0xAB70FE17C79AC6CA6DBD630A48AAF406,
  0xD64D3D9DB981787D092CBBCCDAD5B108,
  0x85F0468293F0EB4E25BBF56008C58EA5,
  0xA76C582338ED2621AF2AF2B80AF6F24E,
  0xD1476E2C07286FAA1AF5AF660DB4AEE1,
  0x82CCA4DB847945CA50D98D9FC890ED4D,
  0xA37FCE126597973CE50FF107BAB528A0,
  0xCC5FC196FEFD7D0C1E53ED49A96272C8,
  0xFF77B1FCBEBCDC4F25E8E89C13BB0F7A,
  0x9FAACF3DF73609B177B191618C54E9AC,
  0xC795830D75038C1DD59DF5B9EF6A2417,
  0xF97AE3D0D2446F254B0573286B44AD1D,
  0x9BECCE62836AC5774EE367F9430AEC32,
  0xC2E801FB244576D5229C41F793CDA73F,
  0xF3A20279ED56D48A6B43527578C1110F,
  0x9845418C345644D6830A13896B78AAA9,
  0xBE5691EF416BD60C23CC986BC656D553,
  0xEDEC366B11C6CB8F2CBFBE86B7EC8AA8,
  0x94B3A202EB1C3F397BF7D71432F3D6A9,
  0xB9E08A83A5E34F07DAF5CCD93FB0CC53]

/-- The rows for q from -280 to -250. -/
def romRows2 : List Nat := [
  0xE858AD248F5C22C9D1B3400F8F9CFF68,
  0x91376C36D99995BE23100809B9C21FA1,
  0xB58547448FFFFB2DABD40A0C2832A78A,
  0xE2E69915B3FFF9F916C90C8F323F516C,
  0x8DD01FAD907FFC3BAE3DA7D97F6792E3,
  0xB1442798F49FFB4A99CD11CFDF41779C,
  0xDD95317F31C7FA1D40405643D711D583,
  0x8A7D3EEF7F1CFC52482835EA666B2572,
  0xAD1C8EAB5EE43B66DA3243650005EECF,
  0xD863B256369D4A4090BED43E40076A82,
  0x873E4F75E2224E685A7744A6E804A291,
  0xA90DE3535AAAE202711515D0A205CB36,
  0xD3515C2831559A830D5A5B44CA873E03,
  0x8412D9991ED58091E858790AFE9486C2,
  0xA5178FFF668AE0B6626E974DBE39A872,
  0xCE5D73FF402D98E3FB0A3D212DC8128F,
  0x80FA687F881C7F8E7CE66634BC9D0B99,
  0xA139029F6A239F721C1FFFC1EBC44E80,
  0xC987434744AC874EA327FFB266B56220,
  0xFBE9141915D7A9224BF1FF9F0062BAA8,
  0x9D71AC8FADA6C9B56F773FC3603DB4A9,
  0xC4CE17B399107C22CB550FB4384D21D3,
  0xF6019DA07F549B2B7E2A53A146606A48,
  0x99C102844F94E0FB2EDA7444CBFC426D,
  0xC0314325637A1939FA911155FEFB5308,
  0xF03D93EEBC589F88793555AB7EBA27CA,
  0x96267C7535B763B54BC1558B2F3458DE,
  0xBBB01B9283253CA29EB1AAEDFB016F16,
  0xEA9C227723EE8BCB465E15A979C1CADC,
  0x92A1958A7675175F0BFACD89EC191EC9,
  0xB749FAED14125D36CEF980EC671F667B]

/-- The rows for q from -249 to -219. -/
def romRows3 : List Nat := [
  0xE51C79A85916F48482B7E12780E7401A,
  0x8F31CC0937AE58D2D1B2ECB8B0908810,
  0xB2FE3F0B8599EF07861FA7E6DCB4AA15,
  0xDFBDCECE67006AC967A791E093E1D49A,
  0x8BD6A141006042BDE0C8BB2C5C6D24E0,
  0xAECC49914078536D58FAE9F773886E18,
  0xDA7F5BF590966848AF39A475506A899E,
  0x888F99797A5E012D6D8406C952429603,
  0xAAB37FD7D8F58178C8E5087BA6D33B83,
  0xD5605FCDCF32E1D6FB1E4A9A90880A64,
  0x855C3BE0A17FCD265CF2EEA09A55067F,
  0xA6B34AD8C9DFC06FF42FAA48C0EA481E,
  0xD0601D8EFC57B08BF13B94DAF124DA26,
  0x823C12795DB6CE5776C53D08D6B70858,
  0xA2CB1717B52481ED54768C4B0C64CA6E,
  0xCB7DDCDDA26DA268A9942F5DCF7DFD09,
  0xFE5D54150B090B02D3F93B35435D7C4C,
  0x9EFA548D26E5A6E1C47BC5014A1A6DAF,
  0xC6B8E9B0709F109A359AB6419CA1091B,
  0xF867241C8CC6D4C0C30163D203C94B62,
  0x9B407691D7FC44F879E0DE63425DCF1D,
  0xC21094364DFB5636985915FC12F542E4,
  0xF294B943E17A2BC43E6F5B7B17B2939D,
  0x979CF3CA6CEC5B5AA705992CEECF9C42,
  0xBD8430BD0827723150C6FF782A838353,
  0xECE53CEC4A314EBDA4F8BF5635246428,
  0x940F4613AE5ED136871B7795E136BE99,
  0xB913179899F6858428E2557B59846E3F,
  0xE757DD7EC07426E5331AEADA2FE589CF,
  0x9096EA6F3848984F3FF0D2C85DEF7621,
  0xB4BCA50B065ABE630FED077A756B53A9]

/-- The rows for q from -218 to -188. -/
def romRows4 : List Nat := [
  0xE1EBCE4DC7F16DFBD3E8495912C62894,
  0x8D3360F09CF6E4BD64712DD7ABBBD95C,
  0xB080392CC4349DECBD8D794D96AACFB3,
  0xDCA04777F541C567ECF0D7A0FC5583A0,
  0x89E42CAAF9491B60F41686C49DB57244,
  0xAC5D37D5B79B6239311C2875C522CED5,
  0xD77485CB25823AC77D633293366B828B,
  0x86A8D39EF77164BCAE5DFF9C02033197,
  0xA8530886B54DBDEBD9F57F830283FDFC,
  0xD267CAA862A12D66D072DF63C324FD7B,
  0x8380DEA93DA4BC604247CB9E59F71E6D,
  0xA46116538D0DEB7852D9BE85F074E608,
  0xCD795BE87051665667902E276C921F8B,
  0x806BD9714632DFF600BA1CD8A3DB53B6,
  0xA086CFCD97BF97F380E8A40ECCD228A4,
  0xC8A883C0FDAF7DF06122CD128006B2CD,
  0xFAD2A4B13D1B5D6C796B805720085F81,
  0x9CC3A6EEC6311A63CBE3303674053BB0,
  0xC3F490AA77BD60FCBEDBFC4411068A9C,
  0xF4F1B4D515ACB93BEE92FB5515482D44,
  0x991711052D8BF3C5751BDD152D4D1C4A,
  0xBF5CD54678EEF0B6D262D45A78A0635D,
  0xEF340A98172AACE486FB897116C87C34,
  0x9580869F0E7AAC0ED45D35E6AE3D4DA0,
  0xBAE0A846D21957128974836059CCA109,
  0xE998D258869FACD72BD1A438703FC94B,
  0x91FF83775423CC067B6306A34627DDCF,
  0xB67F6455292CBF081A3BC84C17B1D542,
  0xE41F3D6A7377EECA20CABA5F1D9E4A93,
  0x8E938662882AF53E547EB47B7282EE9C,
  0xB23867FB2A35B28DE99E619A4F23AA43]

/-- The rows for q from -187 to -157. -/
def romRows5 : List Nat := [
  0xDEC681F9F4C31F316405FA00E2EC94D4,
  0x8B3C113C38F9F37EDE83BC408DD3DD04,
  0xAE0B158B4738705E9624AB50B148D445,
  0xD98DDAEE19068C763BADD624DD9B0957,
  0x87F8A8D4CFA417C9E54CA5D70A80E5D6,
  0xA9F6D30A038D1DBC5E9FCF4CCD211F4C,
  0xD47487CC8470652B7647C3200069671F,
  0x84C8D4DFD2C63F3B29ECD9F40041E073,
  0xA5FB0A17C777CF09F468107100525890,
  0xCF79CC9DB955C2CC7182148D4066EEB4,
  0x81AC1FE293D599BFC6F14CD848405530,
  0xA21727DB38CB002FB8ADA00E5A506A7C,
  0xCA9CF1D206FDC03BA6D90811F0E4851C,
  0xFD442E4688BD304A908F4A166D1DA663,
  0x9E4A9CEC15763E2E9A598E4E043287FE,
  0xC5DD44271AD3CDBA40EFF1E1853F29FD,
  0xF7549530E188C128D12BEE59E68EF47C,
  0x9A94DD3E8CF578B982BB74F8301958CE,
  0xC13A148E3032D6E7E36A52363C1FAF01,
  0xF18899B1BC3F8CA1DC44E6C3CB279AC1,
  0x96F5600F15A7B7E529AB103A5EF8C0B9,
  0xBCB2B812DB11A5DE7415D448F6B6F0E7,
  0xEBDF661791D60F56111B495B3464AD21,
  0x936B9FCEBB25C995CAB10DD900BEEC34,
  0xB84687C269EF3BFB3D5D514F40EEA742,
  0xE65829B3046B0AFA0CB4A5A3112A5112,
  0x8FF71A0FE2C2E6DC47F0E785EABA72AB,
  0xB3F4E093DB73A09359ED216765690F56,
  0xE0F218B8D25088B8306869C13EC3532C,
  0x8C974F73837255731E414218C73A13FB,
  0xAFBD2350644EEACFE5D1929EF90898FA]

/-- The rows for q from -156 to -126. -/
def romRows6 : List Nat := [
  0xDBAC6C247D62A583DF45F746B74ABF39,
  0x894BC396CE5DA7726B8BBA8C328EB783,
  0xAB9EB47C81F5114F066EA92F3F326564,
  0xD686619BA27255A2C80A537B0EFEFEBD,
  0x8613FD0145877585BD06742CE95F5F36,
  0xA798FC4196E952E72C48113823B73704,
  0xD17F3B51FCA3A7A0F75A15862CA504C5,
  0x82EF85133DE648C49A984D73DBE722FB,
  0xA3AB66580D5FDAF5C13E60D0D2E0EBBA,
  0xCC963FEE10B7D1B3318DF905079926A8,
  0xFFBBCFE994E5C61FFDF17746497F7052,
  0x9FD561F1FD0F9BD3FEB6EA8BEDEFA633,
  0xC7CABA6E7C5382C8FE64A52EE96B8FC0,
  0xF9BD690A1B68637B3DFDCE7AA3C673B0,
  0x9C1661A651213E2D06BEA10CA65C084E,
  0xC31BFA0FE5698DB8486E494FCFF30A62,
  0xF3E2F893DEC3F1265A89DBA3C3EFCCFA,
  0x986DDB5C6B3A76B7F89629465A75E01C,
  0xBE89523386091465F6BBB397F1135823,
  0xEE2BA6C0678B597F746AA07DED582E2C,
  0x94DB483840B717EFA8C2A44EB4571CDC,
  0xBA121A4650E4DDEB92F34D62616CE413,
  0xE896A0D7E51E156677B020BAF9C81D17,
  0x915E2486EF32CD600ACE1474DC1D122E,
  0xB5B5ADA8AAFF80B80D819992132456BA,
  0xE3231912D5BF60E610E1FFF697ED6C69,
  0x8DF5EFABC5979C8FCA8D3FFA1EF463C1,
  0xB1736B96B6FD83B3BD308FF8A6B17CB2,
  0xDDD0467C64BCE4A0AC7CB3F6D05DDBDE,
  0x8AA22C0DBEF60EE46BCDF07A423AA96B,
  0xAD4AB7112EB3929D86C16C98D2C953C6]

/-- The rows for q from -125 to -95. -/
def romRows7 : List Nat := [
  0xD89D64D57A607744E871C7BF077BA8B7,
  0x87625F056C7C4A8B11471CD764AD4972,
  0xA93AF6C6C79B5D2DD598E40D3DD89BCF,
  0xD389B478798234794AFF1D108D4EC2C3,
  0x843610CB4BF160CBCEDF722A585139BA,
  0xA54394FE1EEDB8FEC2974EB4EE658828,
  0xCE947A3DA6A9273E733D226229FEEA32,
  0x811CCC668829B8870806357D5A3F525F,
  0xA163FF802A3426A8CA07C2DCB0CF26F7,
  0xC9BCFF6034C13052FC89B393DD02F0B5,
  0xFC2C3F3841F17C67BBAC2078D443ACE2,
  0x9D9BA7832936EDC0D54B944B84AA4C0D,
  0xC5029163F384A9310A9E795E65D4DF11,
  0xF64335BCF065D37D4D4617B5FF4A16D5,
  0x99EA0196163FA42E504BCED1BF8E4E45,
  0xC06481FB9BCF8D39E45EC2862F71E1D6,
  0xF07DA27A82C370885D767327BB4E5A4C,
  0x964E858C91BA26553A6A07F8D510F86F,
  0xBBE226EFB628AFEA890489F70A55368B,
  0xEADAB0ABA3B2DBE52B45AC74CCEA842E,
  0x92C8AE6B464FC96F3B0B8BC90012929D,
  0xB77ADA0617E3BBCB09CE6EBB40173744,
  0xE55990879DDCAABDCC420A6A101D0515,
  0x8F57FA54C2A9EAB69FA946824A12232D,
  0xB32DF8E9F354656447939822DC96ABF9,
  0xDFF9772470297EBD59787E2B93BC56F7,
  0x8BFBEA76C619EF3657EB4EDB3C55B65A,
  0xAEFAE51477A06B03EDE622920B6B23F1,
  0xDAB99E59958885C4E95FAB368E45ECED,
  0x88B402F7FD75539B11DBCB0218EBB414,
  0xAAE103B5FCD2A881D652BDC29F26A119]

/-- The rows for q from -94 to -64. -/
def romRows8 : List Nat := [
  0xD59944A37C0752A24BE76D3346F0495F,
  0x857FCAE62D8493A56F70A4400C562DDB,
  0xA6DFBD9FB8E5B88ECB4CCD500F6BB952,
  0xD097AD07A71F26B27E2000A41346A7A7,
  0x825ECC24C873782F8ED400668C0C28C8,
  0xA2F67F2DFA90563B728900802F0F32FA,
  0xCBB41EF979346BCA4F2B40A03AD2FFB9,
  0xFEA126B7D78186BCE2F610C84987BFA8,
  0x9F24B832E6B0F4360DD9CA7D2DF4D7C9,
  0xC6EDE63FA05D314391503D1C79720DBB,
  0xF8A95FCF88747D9475A44C6397CE912A,
  0x9B69DBE1B548CE7CC986AFBE3EE11ABA,
  0xC24452DA229B021BFBE85BADCE996168,
  0xF2D56790AB41C2A2FAE27299423FB9C3,
  0x97C560BA6B0919A5DCCD879FC967D41A,
  0xBDB6B8E905CB600F5400E987BBC1C920,
  0xED246723473E3813290123E9AAB23B68,
  0x9436C0760C86E30BF9A0B6720AAF6521,
  0xB94470938FA89BCEF808E40E8D5B3E69,
  0xE7958CB87392C2C2B60B1D1230B20E04,
  0x90BD77F3483BB9B9B1C6F22B5E6F48C2,
  0xB4ECD5F01A4AA8281E38AEB6360B1AF3,
  0xE2280B6C20DD523225C6DA63C38DE1B0,
  0x8D590723948A535F579C487E5A38AD0E,
  0xB0AF48EC79ACE8372D835A9DF0C6D851,
  0xDCDB1B2798182244F8E431456CF88E65,
  0x8A08F0F8BF0F156B1B8E9ECB641B58FF,
  0xAC8B2D36EED2DAC5E272467E3D222F3F,
  0xD7ADF884AA8791775B0ED81DCC6ABB0F,
  0x86CCBB52EA94BAEA98E947129FC2B4E9,
  0xA87FEA27A539E9A53F2398D747B36224]

/-- The rows for q from -63 to -33. -/
def romRows9 : List Nat := [
  0xD29FE4B18E88640E8EEC7F0D19A03AAD,
  0x83A3EEEEF9153E891953CF68300424AC,
  0xA48CEAAAB75A8E2B5FA8C3423C052DD7,
  0xCDB02555653131B63792F412CB06794D,
  0x808E17555F3EBF11E2BBD88BBEE40BD0,
  0xA0B19D2AB70E6ED65B6ACEAEAE9D0EC4,
  0xC8DE047564D20A8BF245825A5A445275,
  0xFB158592BE068D2EEED6E2F0F0D56712,
  0x9CED737BB6C4183D55464DD69685606B,
  0xC428D05AA4751E4CAA97E14C3C26B886,
  0xF53304714D9265DFD53DD99F4B3066A8,
  0x993FE2C6D07B7FABE546A8038EFE4029,
  0xBF8FDB78849A5F96DE98520472BDD033,
  0xEF73D256A5C0F77C963E66858F6D4440,
  0x95A8637627989AADDDE7001379A44AA8,
  0xBB127C53B17EC1595560C018580D5D52,
  0xE9D71B689DDE71AFAAB8F01E6E10B4A6,
  0x9226712162AB070DCAB3961304CA70E8,
  0xB6B00D69BB55C8D13D607B97C5FD0D22,
  0xE45C10C42A2B3B058CB89A7DB77C506A,
  0x8EB98A7A9A5B04E377F3608E92ADB242,
  0xB267ED1940F1C61C55F038B237591ED3,
  0xDF01E85F912E37A36B6C46DEC52F6688,
  0x8B61313BBABCE2C62323AC4B3B3DA015,
  0xAE397D8AA96C1B77ABEC975E0A0D081A,
  0xD9C7DCED53C7225596E7BD358C904A21,
  0x881CEA14545C75757E50D64177DA2E54,
  0xAA242499697392D2DDE50BD1D5D0B9E9,
  0xD4AD2DBFC3D07787955E4EC64B44E864,
  0x84EC3C97DA624AB4BD5AF13BEF0B113E,
  0xA6274BBDD0FADD61ECB1AD8AEACDD58E]

/-- The rows for q from -32 to -2. -/
def romRows10 : List Nat := [
  0xCFB11EAD453994BA67DE18EDA5814AF2,
  0x81CEB32C4B43FCF480EACF948770CED7,
  0xA2425FF75E14FC31A1258379A94D028D,
  0xCAD2F7F5359A3B3E096EE45813A04330,
  0xFD87B5F28300CA0D8BCA9D6E188853FC,
  0x9E74D1B791E07E48775EA264CF55347E,
  0xC612062576589DDA95364AFE032A819E,
  0xF79687AED3EEC5513A83DDBD83F52205,
  0x9ABE14CD44753B52C4926A9672793543,
  0xC16D9A0095928A2775B7053C0F178294,
  0xF1C90080BAF72CB15324C68B12DD6339,
  0x971DA05074DA7BEED3F6FC16EBCA5E04,
  0xBCE5086492111AEA88F4BB1CA6BCF585,
  0xEC1E4A7DB69561A52B31E9E3D06C32E6,
  0x9392EE8E921D5D073AFF322E62439FD0,
  0xB877AA3236A4B44909BEFEB9FAD487C3,
  0xE69594BEC44DE15B4C2EBE687989A9B4,
  0x901D7CF73AB0ACD90F9D37014BF60A11,
  0xB424DC35095CD80F538484C19EF38C95,
  0xE12E13424BB40E132865A5F206B06FBA,
  0x8CBCCC096F5088CBF93F87B7442E45D4,
  0xAFEBFF0BCB24AAFEF78F69A51539D749,
  0xDBE6FECEBDEDD5BEB573440E5A884D1C,
  0x89705F4136B4A59731680A88F8953031,
  0xABCC77118461CEFCFDC20D2B36BA7C3E,
  0xD6BF94D5E57A42BC3D32907604691B4D,
  0x8637BD05AF6C69B5A63F9A49C2C1B110,
  0xA7C5AC471B4784230FCF80DC33721D54,
  0xD1B71758E219652BD3C36113404EA4A9,
  0x83126E978D4FDF3B645A1CAC083126EA,
  0xA3D70A3D70A3D70A3D70A3D70A3D70A4]

/-- The rows for q from -1 to 29. -/
def romRows11 : List Nat := [
  0xCCCCCCCCCCCCCCCCCCCCCCCCCCCCCCCD,
  0x80000000000000000000000000000000,
  0xA0000000000000000000000000000000,
  0xC8000000000000000000000000000000,
  0xFA000000000000000000000000000000,
  0x9C400000000000000000000000000000,
  0xC3500000000000000000000000000000,
  0xF4240000000000000000000000000000,
  0x98968000000000000000000000000000,
  0xBEBC2000000000000000000000000000,
  0xEE6B2800000000000000000000000000,
  0x9502F900000000000000000000000000,
  0xBA43B740000000000000000000000000,
  0xE8D4A510000000000000000000000000,
  0x9184E72A000000000000000000000000,
  0xB5E620F4800000000000000000000000,
  0xE35FA931A00000000000000000000000,
  0x8E1BC9BF040000000000000000000000,
  0xB1A2BC2EC50000000000000000000000,
  0xDE0B6B3A764000000000000000000000,
  0x8AC7230489E800000000000000000000,
  0xAD78EBC5AC6200000000000000000000,
  0xD8D726B7177A80000000000000000000,
  0x878678326EAC90000000000000000000,
  0xA968163F0A57B4000000000000000000,
  0xD3C21BCECCEDA1000000000000000000,
  0x84595161401484A00000000000000000,
  0xA56FA5B99019A5C80000000000000000,
  0xCECB8F27F4200F3A0000000000000000,
  0x813F3978F89409844000000000000000,
  0xA18F07D736B90BE55000000000000000]

/-- The rows for q from 30 to 60. -/
def romRows12 : List Nat := [
  0xC9F2C9CD04674EDEA400000000000000,
  0xFC6F7C40458122964D00000000000000,
  0x9DC5ADA82B70B59DF020000000000000,
  0xC5371912364CE3056C28000000000000,
  0xF684DF56C3E01BC6C732000000000000,
  0x9A130B963A6C115C3C7F400000000000,
  0xC097CE7BC90715B34B9F100000000000,
  0xF0BDC21ABB48DB201E86D40000000000,
  0x96769950B50D88F41314448000000000,
  0xBC143FA4E250EB3117D955A000000000,
  0xEB194F8E1AE525FD5DCFAB0800000000,
  0x92EFD1B8D0CF37BE5AA1CAE500000000,
  0xB7ABC627050305ADF14A3D9E40000000,
  0xE596B7B0C643C7196D9CCD05D0000000,
  0x8F7E32CE7BEA5C6FE4820023A2000000,
  0xB35DBF821AE4F38BDDA2802C8A800000,
  0xE0352F62A19E306ED50B2037AD200000,
  0x8C213D9DA502DE454526F422CC340000,
  0xAF298D050E4395D69670B12B7F410000,
  0xDAF3F04651D47B4C3C0CDD765F114000,
  0x88D8762BF324CD0FA5880A69FB6AC800,
  0xAB0E93B6EFEE00538EEA0D047A457A00,
  0xD5D238A4ABE9806872A4904598D6D880,
  0x85A36366EB71F04147A6DA2B7F864750,
  0xA70C3C40A64E6C51999090B65F67D924,
  0xD0CF4B50CFE20765FFF4B4E3F741CF6D,
  0x82818F1281ED449FBFF8F10E7A8921A4,
  0xA321F2D7226895C7AFF72D52192B6A0D,
  0xCBEA6F8CEB02BB399BF4F8A69F764490,
  0xFEE50B7025C36A0802F236D04753D5B4,
  0x9F4F2726179A224501D762422C946590]

/-- The rows for q from 61 to 91. -/
def romRows13 : List Nat := [
  0xC722F0EF9D80AAD6424D3AD2B7B97EF5,
  0xF8EBAD2B84E0D58BD2E0898765A7DEB2,
  0x9B934C3B330C857763CC55F49F88EB2F,
  0xC2781F49FFCFA6D53CBF6B71C76B25FB,
  0xF316271C7FC3908A8BEF464E3945EF7A,
  0x97EDD871CFDA3A5697758BF0E3CBB5AC,
  0xBDE94E8E43D0C8EC3D52EEED1CBEA317,
  0xED63A231D4C4FB274CA7AAA863EE4BDD,
  0x945E455F24FB1CF88FE8CAA93E74EF6A,
  0xB975D6B6EE39E436B3E2FD538E122B44,
  0xE7D34C64A9C85D4460DBBCA87196B616,
  0x90E40FBEEA1D3A4ABC8955E946FE31CD,
  0xB51D13AEA4A488DD6BABAB6398BDBE41,
  0xE264589A4DCDAB14C696963C7EED2DD1,
  0x8D7EB76070A08AECFC1E1DE5CF543CA2,
  0xB0DE65388CC8ADA83B25A55F43294BCB,
  0xDD15FE86AFFAD91249EF0EB713F39EBE,
  0x8A2DBF142DFCC7AB6E3569326C784337,
  0xACB92ED9397BF99649C2C37F07965404,
  0xD7E77A8F87DAF7FBDC33745EC97BE906,
  0x86F0AC99B4E8DAFD69A028BB3DED71A3,
  0xA8ACD7C0222311BCC40832EA0D68CE0C,
  0xD2D80DB02AABD62BF50A3FA490C30190,
  0x83C7088E1AAB65DB792667C6DA79E0FA,
  0xA4B8CAB1A1563F52577001B891185938,
  0xCDE6FD5E09ABCF26ED4C0226B55E6F86,
  0x80B05E5AC60B6178544F8158315B05B4,
  0xA0DC75F1778E39D6696361AE3DB1C721,
  0xC913936DD571C84C03BC3A19CD1E38E9,
  0xFB5878494ACE3A5F04AB48A04065C723,
  0x9D174B2DCEC0E47B62EB0D64283F9C76]

/-- The rows for q from 92 to 122. -/
def romRows14 : List Nat := [
  0xC45D1DF942711D9A3BA5D0BD324F8394,
  0xF5746577930D6500CA8F44EC7EE36479,
  0x9968BF6ABBE85F207E998B13CF4E1ECB,
  0xBFC2EF456AE276E89E3FEDD8C321A67E,
  0xEFB3AB16C59B14A2C5CFE94EF3EA101E,
  0x95D04AEE3B80ECE5BBA1F1D158724A12,
  0xBB445DA9CA61281F2A8A6E45AE8EDC97,
  0xEA1575143CF97226F52D09D71A3293BD,
  0x924D692CA61BE758593C2626705F9C56,
  0xB6E0C377CFA2E12E6F8B2FB00C77836C,
  0xE498F455C38B997A0B6DFB9C0F956447,
  0x8EDF98B59A373FEC4724BD4189BD5EAC,
  0xB2977EE300C50FE758EDEC91EC2CB657,
  0xDF3D5E9BC0F653E12F2967B66737E3ED,
  0x8B865B215899F46CBD79E0D20082EE74,
  0xAE67F1E9AEC07187ECD8590680A3AA11,
  0xDA01EE641A708DE9E80E6F4820CC9495,
  0x884134FE908658B23109058D147FDCDD,
  0xAA51823E34A7EEDEBD4B46F0599FD415,
  0xD4E5E2CDC1D1EA966C9E18AC7007C91A,
  0x850FADC09923329E03E2CF6BC604DDB0,
  0xA6539930BF6BFF4584DB8346B786151C,
  0xCFE87F7CEF46FF16E612641865679A63,
  0x81F14FAE158C5F6E4FCB7E8F3F60C07E,
  0xA26DA3999AEF7749E3BE5E330F38F09D,
  0xCB090C8001AB551C5CADF5BFD3072CC5,
  0xFDCB4FA002162A6373D9732FC7C8F7F6,
  0x9E9F11C4014DDA7E2867E7FDDCDD9AFA,
  0xC646D63501A1511DB281E1FD541501B8,
  0xF7D88BC24209A5651F225A7CA91A4226,
  0x9AE757596946075F3375788DE9B06958]

/-- The rows for q from 123 to 153. -/
def romRows15 : List Nat := [
  0xC1A12D2FC39789370052D6B1641C83AE,
  0xF209787BB47D6B84C0678C5DBD23A49A,
  0x9745EB4D50CE6332F840B7BA963646E0,
  0xBD176620A501FBFFB650E5A93BC3D898,
  0xEC5D3FA8CE427AFFA3E51F138AB4CEBE,
  0x93BA47C980E98CDFC66F336C36B10137,
  0xB8A8D9BBE123F017B80B0047445D4184,
  0xE6D3102AD96CEC1DA60DC059157491E5,
  0x9043EA1AC7E4139287C89837AD68DB2F,
  0xB454E4A179DD187729BABE4598C311FB,
  0xE16A1DC9D8545E94F4296DD6FEF3D67A,
  0x8CE2529E2734BB1D1899E4A65F58660C,
  0xB01AE745B101E9E45EC05DCFF72E7F8F,
  0xDC21A1171D42645D76707543F4FA1F73,
  0x899504AE72497EBA6A06494A791C53A8,
  0xABFA45DA0EDBDE690487DB9D17636892,
  0xD6F8D7509292D60345A9D2845D3C42B6,
  0x865B86925B9BC5C20B8A2392BA45A9B2,
  0xA7F26836F282B7328E6CAC7768D7141E,
  0xD1EF0244AF2364FF3207D795430CD926,
  0x8335616AED761F1F7F44E6BD49E807B8,
  0xA402B9C5A8D3A6E75F16206C9C6209A6,
  0xCD036837130890A136DBA887C37A8C0F,
  0x802221226BE55A64C2494954DA2C9789,
  0xA02AA96B06DEB0FDF2DB9BAA10B7BD6C,
  0xC83553C5C8965D3D6F92829494E5ACC7,
  0xFA42A8B73ABBF48CCB772339BA1F17F9,
  0x9C69A97284B578D7FF2A760414536EFB,
  0xC38413CF25E2D70DFEF5138519684ABA,
  0xF46518C2EF5B8CD17EB258665FC25D69,
  0x98BF2F79D5993802EF2F773FFBD97A61]

/-- The rows for q from 154 to 184. -/
def romRows16 : List Nat := [
  0xBEEEFB584AFF8603AAFB550FFACFD8FA,
  0xEEAABA2E5DBF678495BA2A53F983CF38,
  0x952AB45CFA97A0B2DD945A747BF26183,
  0xBA756174393D88DF94F971119AEEF9E4,
  0xE912B9D1478CEB177A37CD5601AAB85D,
  0x91ABB422CCB812EEAC62E055C10AB33A,
  0xB616A12B7FE617AA577B986B314D6009,
  0xE39C49765FDF9D94ED5A7E85FDA0B80B,
  0x8E41ADE9FBEBC27D14588F13BE847307,
  0xB1D219647AE6B31C596EB2D8AE258FC8,
  0xDE469FBD99A05FE36FCA5F8ED9AEF3BB,
  0x8AEC23D680043BEE25DE7BB9480D5854,
  0xADA72CCC20054AE9AF561AA79A10AE6A,
  0xD910F7FF28069DA41B2BA1518094DA04,
  0x87AA9AFF7904228690FB44D2F05D0842,
  0xA99541BF57452B28353A1607AC744A53,
  0xD3FA922F2D1675F242889B8997915CE8,
  0x847C9B5D7C2E09B769956135FEBADA11,
  0xA59BC234DB398C2543FAB9837E699095,
  0xCF02B2C21207EF2E94F967E45E03F4BB,
  0x8161AFB94B44F57D1D1BE0EEBAC278F5,
  0xA1BA1BA79E1632DC6462D92A69731732,
  0xCA28A291859BBF937D7B8F7503CFDCFE,
  0xFCB2CB35E702AF785CDA735244C3D43E,
  0x9DEFBF01B061ADAB3A0888136AFA64A7,
  0xC56BAEC21C7A1916088AAA1845B8FDD0,
  0xF6C69A72A3989F5B8AAD549E57273D45,
  0x9A3C2087A63F639936AC54E2F678864B,
  0xC0CB28A98FCF3C7F84576A1BB416A7DD,
  0xF0FDF2D3F3C30B9F656D44A2A11C51D5,
  0x969EB7C47859E7439F644AE5A4B1B325]

/-- The rows for q from 185 to 215. -/
def romRows17 : List Nat := [
  0xBC4665B596706114873D5D9F0DDE1FEE,
  0xEB57FF22FC0C7959A90CB506D155A7EA,
  0x9316FF75DD87CBD809A7F12442D588F2,
  0xB7DCBF5354E9BECE0C11ED6D538AEB2F,
  0xE5D3EF282A242E818F1668C8A86DA5FA,
  0x8FA475791A569D10F96E017D694487BC,
  0xB38D92D760EC445537C981DCC395A9AC,
  0xE070F78D3927556A85BBE253F47B1417,
  0x8C469AB843B8956293956D7478CCEC8E,
  0xAF58416654A6BABB387AC8D1970027B2,
  0xDB2E51BFE9D0696A06997B05FCC0319E,
  0x88FCF317F22241E2441FECE3BDF81F03,
  0xAB3C2FDDEEAAD25AD527E81CAD7626C3,
  0xD60B3BD56A5586F18A71E223D8D3B074,
  0x85C7056562757456F6872D5667844E49,
  0xA738C6BEBB12D16CB428F8AC016561DB,
  0xD106F86E69D785C7E13336D701BEBA52,
  0x82A45B450226B39CECC0024661173473,
  0xA34D721642B0608427F002D7F95D0190,
  0xCC20CE9BD35C78A531EC038DF7B441F4,
  0xFF290242C83396CE7E67047175A15271,
  0x9F79A169BD203E410F0062C6E984D386,
  0xC75809C42C684DD152C07B78A3E60868,
  0xF92E0C3537826145A7709A56CCDF8A82,
  0x9BBCC7A142B17CCB88A66076400BB691,
  0xC2ABF989935DDBFE6ACFF893D00EA435,
  0xF356F7EBF83552FE0583F6B8C4124D43,
  0x98165AF37B2153DEC3727A337A8B704A,
  0xBE1BF1B059E9A8D6744F18C0592E4C5C,
  0xEDA2EE1C7064130C1162DEF06F79DF73,
  0x9485D4D1C63E8BE78ADDCB5645AC2BA8]

/-- The rows for q from 216 to 246. -/
def romRows18 : List Nat := [
  0xB9A74A0637CE2EE16D953E2BD7173692,
  0xE8111C87C5C1BA99C8FA8DB6CCDD0437,
  0x910AB1D4DB9914A01D9C9892400A22A2,
  0xB54D5E4A127F59C82503BEB6D00CAB4B,
  0xE2A0B5DC971F303A2E44AE64840FD61D,
  0x8DA471A9DE737E245CEAECFED289E5D2,
  0xB10D8E1456105DAD7425A83E872C5F47,
  0xDD50F1996B947518D12F124E28F77719,
  0x8A5296FFE33CC92F82BD6B70D99AAA6F,
  0xACE73CBFDC0BFB7B636CC64D1001550B,
  0xD8210BEFD30EFA5A3C47F7E05401AA4E,
  0x8714A775E3E95C7865ACFAEC34810A71,
  0xA8D9D1535CE3B3967F1839A741A14D0D,
  0xD31045A8341CA07C1EDE48111209A050,
  0x83EA2B892091E44D934AED0AAB460432,
  0xA4E4B66B68B65D60F81DA84D5617853F,
  0xCE1DE40642E3F4B936251260AB9D668E,
  0x80D2AE83E9CE78F3C1D72B7C6B426019,
  0xA1075A24E4421730B24CF65B8612F81F,
  0xC94930AE1D529CFCDEE033F26797B627,
  0xFB9B7CD9A4A7443C169840EF017DA3B1,
  0x9D412E0806E88AA58E1F289560EE864E,
  0xC491798A08A2AD4EF1A6F2BAB92A27E2,
  0xF5B5D7EC8ACB58A2AE10AF696774B1DB,
  0x9991A6F3D6BF1765ACCA6DA1E0A8EF29,
  0xBFF610B0CC6EDD3F17FD090A58D32AF3,
  0xEFF394DCFF8A948EDDFC4B4CEF07F5B0,
  0x95F83D0A1FB69CD94ABDAF101564F98E,
  0xBB764C4CA7A4440F9D6D1AD41ABE37F1,
  0xEA53DF5FD18D551384C86189216DC5ED,
  0x92746B9BE2F8552C32FD3CF5B4E49BB4]

/-- The rows for q from 247 to 277. -/
def romRows19 : List Nat := [
  0xB7118682DBB66A773FBC8C33221DC2A1,
  0xE4D5E82392A405150FABAF3FEAA5334A,
  0x8F05B1163BA6832D29CB4D87F2A7400E,
  0xB2C71D5BCA9023F8743E20E9EF511012,
  0xDF78E4B2BD342CF6914DA9246B255416,
  0x8BAB8EEFB6409C1A1AD089B6C2F7548E,
  0xAE9672ABA3D0C320A184AC2473B529B1,
  0xDA3C0F568CC4F3E8C9E5D72D90A2741E,
  0x8865899617FB18717E2FA67C7A658892,
  0xAA7EEBFB9DF9DE8DDDBB901B98FEEAB7,
  0xD51EA6FA85785631552A74227F3EA565,
  0x8533285C936B35DED53A88958F87275F,
  0xA67FF273B84603568A892ABAF368F137,
  0xD01FEF10A657842C2D2B7569B0432D85,
  0x8213F56A67F6B29B9C3B29620E29FC73,
  0xA298F2C501F45F428349F3BA91B47B8F,
  0xCB3F2F7642717713241C70A936219A73,
  0xFE0EFB53D30DD4D7ED238CD383AA0110,
  0x9EC95D1463E8A506F4363804324A40AA,
  0xC67BB4597CE2CE48B143C6053EDCD0D5,
  0xF81AA16FDC1B81DADD94B7868E94050A,
  0x9B10A4E5E9913128CA7CF2B4191C8326,
  0xC1D4CE1F63F57D72FD1C2F611F63A3F0,
  0xF24A01A73CF2DCCFBC633B39673C8CEC,
  0x976E41088617CA01D5BE0503E085D813,
  0xBD49D14AA79DBC824B2D8644D8A74E18,
  0xEC9C459D51852BA2DDF8E7D60ED1219E,
  0x93E1AB8252F33B45CABB90E5C942B503,
  0xB8DA1662E7B00A173D6A751F3B936243,
  0xE7109BFBA19C0C9D0CC512670A783AD4,
  0x906A617D450187E227FB2B80668B24C5]

/-- The rows for q from 278 to 308. -/
def romRows20 : List Nat := [
  0xB484F9DC9641E9DAB1F9F660802DEDF6,
  0xE1A63853BBD264515E7873F8A0396973,
  0x8D07E33455637EB2DB0B487B6423E1E8,
  0xB049DC016ABC5E5F91CE1A9A3D2CDA62,
  0xDC5C5301C56B75F77641A140CC7810FB,
  0x89B9B3E11B6329BAA9E904C87FCB0A9D,
  0xAC2820D9623BF429546345FA9FBDCD44,
  0xD732290FBACAF133A97C177947AD4095,
  0x867F59A9D4BED6C049ED8EABCCCC485D,
  0xA81F301449EE8C705C68F256BFFF5A74,
  0xD226FC195C6A2F8C73832EEC6FFF3111,
  0x83585D8FD9C25DB7C831FD53C5FF7EAB,
  0xA42E74F3D032F525BA3E7CA8B77F5E55,
  0xCD3A1230C43FB26F28CE1BD2E55F35EB,
  0x80444B5E7AA7CF857980D163CF5B81B3,
  0xA0555E361951C366D7E105BCC332621F,
  0xC86AB5C39FA634408DD9472BF3FEFAA7,
  0xFA856334878FC150B14F98F6F0FEB951,
  0x9C935E00D4B9D8D26ED1BF9A569F33D3,
  0xC3B8358109E84F070A862F80EC4700C8,
  0xF4A642E14C6262C8CD27BB612758C0FA,
  0x98E7E9CCCFBD7DBD8038D51CB897789C,
  0xBF21E44003ACDD2CE0470A63E6BD56C3,
  0xEEEA5D50049814781858CCFCE06CAC74,
  0x95527A5202DF0CCB0F37801E0C43EBC8,
  0xBAA718E68396CFFDD30560258F54E6BA,
  0xE950DF20247C83FD47C6B82EF32A2069,
  0x91D28B7416CDD27E4CDC331D57FA5441,
  0xB6472E511C81471DE0133FE4ADF8E952,
  0xE3D8F9E563A198E558180FDDD97723A6,
  0x8E679C2F5E44FF8F570F09EAA7EA7648]

/-- All 651 rows, in the order of R55. -/
def romListing : List Nat :=
  romRows0 ++ romRows1 ++ romRows2 ++ romRows3 ++ romRows4 ++ romRows5 ++ romRows6 ++
  romRows7 ++ romRows8 ++ romRows9 ++ romRows10 ++ romRows11 ++ romRows12 ++ romRows13 ++
  romRows14 ++ romRows15 ++ romRows16 ++ romRows17 ++ romRows18 ++ romRows19 ++ romRows20

/-- Every word of the ROM is the listed one (R55): 1302 words, high half first. -/
theorem test_rom_is_the_listing :
    (List.range 1302).map Machine.romWord = romListing.flatMap (fun row => [row / 2 ^ 64, row % 2 ^ 64]) := by
  decide +kernel

end Sys2Proof.Tests
end

