-- ==== Sys2Proof/Tests/Slice0.lean ====
section
/-! SUPPORT. The package's own tests: the well-formedness smoke, words written out from the encoding, one or two results per
command with the values of spec/95_test_vectors.md, and for each statement with hypotheses a case that meets them. -/

namespace Sys2Proof.Tests

-- The theorems of this file are checked one after another: each is a closed evaluation, and side by
-- side they would ask for more threads than a small machine has.
set_option Elab.async false

open Sys2Proof.Machine Sys2Proof.Claims

/-! ### Helpers -/

/-- The state after reset with some registers preloaded. -/
def preload (rs : List (Reg × Word)) : State := rs.foldl (fun s p => s.setReg p.1 p.2) State.reset

/-- The answer is a next state with the property. -/
def nextHas (r : Result) (p : State → Bool) : Bool :=
  match r with
  | .next t => p t
  | .fault _ => false
  | .refused _ => false

/-- A completed command left this in the register. -/
def leaves (r : Result) (q : Reg) (v : Word) : Bool := nextHas r fun t => t.reg q == v && t.st == 0

/-- The command faulted with this `ST` and `FINFO`. -/
def faults (r : Result) (st : BitVec 32) (info : Word) : Bool :=
  nextHas r fun t => t.st == st && t.finfo == info && t.mode == .faulted

/-- A faulted state: P5 of spec/95_test_vectors.md after its second command. -/
def faultedState : State :=
  (preload [(1, 0x2F37363534333231)]).raised 0x20301000 .nondigitWindow 0x2F37363534333231

/-! ### WellFormed: each check refuses an ill-formed term (R67) -/

theorem test_mul128_equal_destinations_ill_formed : (Instr.mul128 3 3 1 2).wellFormed = false := by decide
theorem test_isdigit_equal_destinations_ill_formed : (Instr.isdigit 4 4 2).wellFormed = false := by decide
theorem test_p5q_equal_destinations_ill_formed : (Instr.p5q 0 0 2).wellFormed = false := by decide
theorem test_el64_equal_destinations_ill_formed : (Instr.el64 5 5 1 2 3).wellFormed = false := by decide
theorem test_el32_equal_destinations_ill_formed : (Instr.el32 15 15 1 2 3).wellFormed = false := by decide
theorem test_sources_may_repeat : (Instr.el64 1 2 1 1 1).wellFormed = true := by decide

/-! ### Decoding: words written out field by field from R61 and R65 -/

theorem test_decode_mul128 : decode 0b00010000_1010_0101_1111_0001_0000_0000 = .ok (.mul128 10 5 15 1) := by rfl
theorem test_decode_lzc64 : decode 0b00010001_1111_0000_0001_0000_0000_0000 = .ok (.lzc64 15 1) := by rfl
theorem test_decode_dec8 : decode 0b00100000_0010_0000_1100_0000_0000_0000 = .ok (.dec8 2 12) := by rfl
theorem test_decode_isdig8 : decode 0b00100001_0000_0000_0000_0000_0000_0000 = .ok (.isdig8 0 0) := by rfl
theorem test_decode_isdigit : decode 0b00100010_0001_1000_0111_0000_0000_0000 = .ok (.isdigit 1 8 7) := by rfl
theorem test_decode_isspace : decode 0b00100011_1001_0000_0110_0000_0000_0000 = .ok (.isspace 9 6) := by rfl
theorem test_decode_p5w : decode 0b00110000_1000_0000_0011_0000_0000_0000 = .ok (.p5w 8 3) := by rfl
theorem test_decode_p5q : decode 0b00110001_1110_1101_1011_0000_0000_0000 = .ok (.p5q 14 13 11) := by rfl
theorem test_decode_bexp : decode 0b00110010_0100_0000_1010_0000_0000_0000 = .ok (.bexp 4 10) := by rfl
theorem test_decode_el64 : decode 0b01000000_0001_0010_0100_1000_1111_0000 = .ok (.el64 1 2 4 8 15) := by rfl
theorem test_decode_el32 : decode 0b01000001_1000_0100_0010_0001_1010_0000 = .ok (.el32 8 4 2 1 10) := by rfl
theorem test_decode_asm64 : decode 0b01010000_0111_0000_1010_0011_1100_0000 = .ok (.asm64 7 10 3 12) := by rfl
theorem test_decode_asm32 : decode 0b01010001_1100_0000_0101_1001_0110_0000 = .ok (.asm32 12 5 9 6) := by rfl

/-- Words of L2.14 that are no command. -/
theorem test_decode_rejects :
    decode 0x10561301 = .error .reservedNonzero ∧ decode 0x11413000 = .error .reservedNonzero ∧
      decode 0x22442000 = .error .equalDestinations ∧ decode 0x50715640 = .error .reservedNonzero ∧
      decode 0x12000000 = .error .unassignedOpcode ∧ decode 0xFFFFFFFF = .error .unassignedOpcode := by
  refine ⟨rfl, rfl, rfl, rfl, rfl, rfl⟩

/-- The assembler's own example words of R72. -/
theorem test_encode_examples :
    encode (.mul128 3 4 1 2) = 0x10341200 ∧ encode (.asm64 7 5 6 4) = 0x50705640 ∧
      encode (.mul128 3 3 1 2) = 0x10331200 := by decide

/-! ### Results, with the values of spec/95_test_vectors.md -/

theorem test_mul128_largest :
    leaves (execMul128 3 4 1 1 (preload [(1, 0xFFFFFFFFFFFFFFFF)])) 3 0xFFFFFFFFFFFFFFFE = true := by decide +kernel
theorem test_mul128_destination_is_source :
    leaves (execMul128 1 2 2 1 (preload [(1, 0x123456789ABCDEF0), (2, 0xFEDCBA9876543210)])) 2
      0x236D88FE5618CF00 = true := by decide +kernel
theorem test_lzc64_zero : leaves (execLzc64 4 3 (preload [])) 4 64 = true := by decide +kernel
theorem test_lzc64_example : leaves (execLzc64 4 3 (preload [(3, 0xBC614E)])) 4 40 = true := by decide +kernel
theorem test_dec8_example :
    leaves (execDec8 3 1 (preload [(1, 0x3837363534333231)])) 3 12345678 = true := by decide +kernel
theorem test_dec8_faults :
    faults (execDec8 3 1 (preload [(1, 0x3A37363534333231)])) 0x21 0x3A37363534333231 = true := by decide +kernel
theorem test_isdig8_high_bit : leaves (execIsdig8 2 1 (preload [(1, 0x383736B534333231)])) 2 0 = true := by
  decide +kernel
theorem test_isdigit_ignores_high_bits :
    leaves (execIsdigit 4 5 2 (preload [(2, 0xFFFFFFFFFFFF0037)])) 5 7 = true := by decide +kernel
theorem test_isdigit_wraps : leaves (execIsdigit 4 5 2 (preload [(2, 0x2F)])) 5 0xFFFFFFFF = true := by decide +kernel
theorem test_isspace_vertical_tab : leaves (execIsspace 3 1 (preload [(1, 0x0B)])) 3 1 = true := by decide +kernel
theorem test_isspace_no_break_space : leaves (execIsspace 3 1 (preload [(1, 0xA0)])) 3 0 = true := by decide +kernel
theorem test_p5w_last_word : leaves (execP5w 8 4 (preload [(4, 1301)])) 8 0x570F09EAA7EA7648 = true := by
  decide +kernel
theorem test_p5w_beyond_the_end :
    faults (execP5w 8 4 (preload [(4, 0xFFFFFFFFFFFFFFFF)])) 0x31 0xFFFFFFFFFFFFFFFF = true := by decide +kernel
theorem test_p5q_minus_one :
    leaves (execP5q 3 4 2 (preload [(2, 0xFFFFFFFFFFFFFFFF)])) 4 0xCCCCCCCCCCCCCCCD = true := by decide +kernel
theorem test_p5q_below_the_range :
    faults (execP5q 3 4 2 (preload [(2, 0xFFFFFFFFFFFFFEA9)])) 0x31 0xFFFFFFFFFFFFFEA9 = true := by decide +kernel
theorem test_bexp_smallest :
    leaves (execBexp 7 2 (preload [(2, 0xFFFFFFFFFFFFFEAA)])) 7 0xFFFFFFFFFFFFFBCE = true := by decide +kernel
theorem test_bexp_above_the_range : faults (execBexp 7 2 (preload [(2, 309)])) 0x41 0x135 = true := by decide +kernel
theorem test_el64_tie_to_even :
    leaves (execEl64 5 6 1 2 3 (preload [(1, 0x14000000000000A), (2, 0xFFFFFFFFFFFFFFFF)])) 5
      0x10000000000000 = true := by decide +kernel
theorem test_el64_declines :
    leaves (execEl64 5 6 1 2 3 (preload [(1, 17454892591678040225), (2, 56)])) 6 0xFFFFFFFFFFFFFFFF = true := by
  decide +kernel
theorem test_el32_smallest_normal_by_rounding :
    leaves (execEl32 4 5 1 2 3 (preload [(1, 117549435), (2, 0xFFFFFFFFFFFFFFD2)])) 5 1 = true := by decide +kernel
theorem test_el32_truncated_declines :
    leaves (execEl32 4 5 1 2 3 (preload [(1, 16777218), (3, 1)])) 5 0xFFFFFFFFFFFFFFFF = true := by decide +kernel
theorem test_asm64_negative_zero :
    leaves (execAsm64 7 5 6 4 (preload [(4, 1)])) 7 0x8000000000000000 = true := by decide +kernel
theorem test_asm64_power2_first :
    faults (execAsm64 7 5 6 4 (preload [(5, 0xFFFFFFFFFFFFFFFF), (6, 0xFFFFFFFFFFFFFFFB)])) 0x51
      0xFFFFFFFFFFFFFFFB = true := by decide +kernel
theorem test_asm32_negative_infinity :
    leaves (execAsm32 6 4 5 3 (preload [(5, 0xFF), (3, 1)])) 6 0xFF800000 = true := by decide +kernel
theorem test_asm32_subnormal_with_implicit_bit :
    faults (execAsm32 6 4 5 3 (preload [(4, 0x800000)])) 0x51 0x800000 = true := by decide +kernel

/-! ### The step, the host's operations and the written form -/

theorem test_fetch_word_runs :
    nextHas (step ((preload [(2, 12)]).withFetchWord 32 0x32702000)) (fun t => t.reg 7 == 0x66 && t.pc == 1) = true := by
  decide +kernel
theorem test_illegal_word_faults :
    nextHas (step ((preload [(1, 3)]).pending (.issue 0x10331200)))
      (fun t => t.st == 0x11 && t.fcw == 0x10331200 && t.finfo == 0 && t.pc == 0) = true := by decide +kernel
theorem test_status_is_read :
    nextHas (step (faultedState.pending .readStatus))
      (fun t => t.replies == [.status 0x21 0x20301000 0x2F37363534333231]) = true := by decide +kernel
theorem test_command_line_reads :
    readLine "el64    x5, x6, x1, x2, x3     # pc 0: 0x40561230".toList = some (.issue 0x40561230) := by decide +kernel
theorem test_preload_line_reads :
    readLine "x1 = 0x14000000000000A".toList = some (.write 1 0x14000000000000A) := by decide +kernel
theorem test_command_prints : asmText (.asm64 7 15 6 10) = "asm64 x7, x15, x6, x10".toList := by decide +kernel

/-! ### Cases that meet the statements' hypotheses -/

theorem witness_reset_from_either_mode :
    State.reset.mode = .run ∧ faultedState.mode = .faulted ∧ State.reset.free = faultedState.free ∧
      State.reset.inbox = faultedState.inbox ∧ State.reset.replies = faultedState.replies := by
  decide +kernel

theorem witness_nothing_pending : State.reset.inbox = [] := rfl

theorem witness_issues_a_command :
    Issues State.reset 0x11403000 (.lzc64 4 3) ∧ State.reset.mode = .run ∧
      decodeTableWord 32 0x11403000 = some (.lzc64 4 3) := ⟨⟨rfl, rfl⟩, rfl, rfl⟩

theorem witness_word_outside_the_map :
    State.reset.mode = .run ∧ ∀ m, (0x00000000 : CommandWord) &&& (opcodeRow m).2.1 = (opcodeRow m).1 →
      (opcodeRow m).2.2 = true ∧
        (0x00000000 : CommandWord).toNat / 2 ^ 20 % 16 = (0x00000000 : CommandWord).toNat / 2 ^ 16 % 16 :=
  ⟨rfl, fun m => by cases m <;> decide⟩

theorem witness_word_with_equal_destinations :
    State.reset.mode = .run ∧ ∀ m, (0x10331200 : CommandWord) &&& (opcodeRow m).2.1 = (opcodeRow m).1 →
      (opcodeRow m).2.2 = true ∧
        (0x10331200 : CommandWord).toNat / 2 ^ 20 % 16 = (0x10331200 : CommandWord).toNat / 2 ^ 16 % 16 :=
  ⟨rfl, fun m => by cases m <;> decide⟩

/-- Each of the five two-destination commands with equal destinations, in RUN. -/
theorem witness_equal_destinations :
    State.reset.mode = .run ∧ [Instr.mul128 3 3 1 2, .isdigit 3 3 1, .p5q 3 3 1, .el64 3 3 1 2 0, .el32 3 3 1 2 0].all
      (fun i => i == .mul128 3 3 1 2 || i == .isdigit 3 3 1 || i == .p5q 3 3 1 || i == .el64 3 3 1 2 0 ||
        i == .el32 3 3 1 2 0) = true := by decide

theorem witness_faulted_and_an_operation :
    faultedState.mode = .faulted ∧
      step (faultedState.pending (.write 1 5)) = .next (faultedState.setReg 1 5) ∧
      HostOp.write 1 5 ≠ .reset := ⟨rfl, rfl, by decide⟩

theorem witness_steps_that_move_pc :
    step (State.reset.pending (.write 1 5)) = .next (State.reset.setReg 1 5) ∧
      step (State.reset.pending .reset) = .next State.reset.resetBlock ∧
      nextHas (step (State.reset.pending (.issue 0x11403000))) (fun t => t.pc == 1 && t.mode == .run) = true ∧
      nextHas (step (State.reset.pending (.issue 0x20301000))) (fun t => t.pc == 0 && t.mode == .faulted) = true := by
  exact ⟨rfl, rfl, by decide +kernel, by decide +kernel⟩

theorem witness_well_formed : (Instr.mul128 0 1 0 0).wellFormed = true ∧ (Instr.lzc64 15 15).wellFormed = true := by
  decide

theorem witness_word_that_decodes : decode 0x409A8830 = .ok (.el64 9 10 8 8 3) := rfl

theorem witness_different_destinations : (0 : Reg) ≠ 1 ∧ (15 : Reg) ≠ 14 := by decide

theorem witness_lzc64_operands :
    (preload []).reg 3 = 0 ∧ (preload [(3, 1)]).reg 3 ≠ 0 ∧ (preload [(3, 0x8000000000000000)]).reg 3 ≠ 0 := by
  decide +kernel

theorem witness_windows_of_digits :
    AllDigits ((preload [(1, 0x3030303030303030)]).reg 1) ∧ AllDigits ((preload [(1, 0x3939393939393939)]).reg 1) := by
  unfold AllDigits
  decide +kernel

theorem witness_windows_of_other_bytes :
    Issues (preload [(1, 0x302F303030303030)]) 0x20301000 (.dec8 3 1) ∧
      ¬ AllDigits ((preload [(1, 0x302F303030303030)]).reg 1) ∧
      Issues (preload [(1, 0x303030303030303A)]) 0x20301000 (.dec8 3 1) ∧
      ¬ AllDigits ((preload [(1, 0x303030303030303A)]).reg 1) := by
  refine ⟨⟨rfl, rfl⟩, ?_, ⟨rfl, rfl⟩, ?_⟩ <;> (unfold AllDigits; decide +kernel)

/-- Codes at the edges of ISDIGIT's three clauses. -/
theorem witness_digit_code_edges :
    [0x2F, 0x30, 0x39, 0x3A].map (fun c : Word => ((preload [(2, c)]).reg 2).toNat % 65536) =
      [0x2F, 0x30, 0x39, 0x3A] := by decide +kernel

/-- Codes at the edges of ISSPACE's two clauses. -/
theorem witness_space_code_edges :
    [8, 9, 13, 14, 31, 32, 33].map (fun c : Word => ((preload [(1, c)]).reg 1).toNat % 65536) =
      [8, 9, 13, 14, 31, 32, 33] := by decide +kernel

theorem witness_multiplier_operands : (0xFFFFFFFFFFFFFFFF : Nat) < 2 ^ 64 ∧ (0 : Nat) < 2 ^ 64 := by decide

theorem witness_table_exponents :
    (1 : Nat) ≤ 27 ∧ (27 : Nat) ≤ 27 ∧ (27 : Nat) < 28 ∧ (650 : Nat) ≤ 650 ∧ (-342 : Int) ≤ -342 ∧ (308 : Int) ≤ 308 := by
  decide

theorem witness_p5w_operands :
    ((preload [(1, 0)]).reg 1).toNat ≤ 1301 ∧ ((preload [(1, 0)]).reg 1).toNat % 2 = 0 ∧
      ((preload [(1, 1301)]).reg 1).toNat ≤ 1301 ∧ ((preload [(1, 1301)]).reg 1).toNat % 2 = 1 ∧
      1301 < ((preload [(1, 1302)]).reg 1).toNat := by decide +kernel

theorem witness_p5w_issued : Issues (preload [(1, 1302)]) 0x30801000 (.p5w 8 1) := ⟨rfl, rfl⟩

/-- Exponents at both ends of the table and just outside it. -/
theorem witness_table_edges :
    ¬ OutsideTable ((preload [(2, 0xFFFFFFFFFFFFFEAA)]).reg 2) ∧ ¬ OutsideTable ((preload [(2, 308)]).reg 2) ∧
      OutsideTable ((preload [(2, 0xFFFFFFFFFFFFFEA9)]).reg 2) ∧ OutsideTable ((preload [(2, 309)]).reg 2) := by
  unfold OutsideTable
  decide +kernel

theorem witness_p5q_and_bexp_issued :
    Issues (preload [(2, 309)]) 0x31342000 (.p5q 3 4 2) ∧ Issues (preload [(2, 309)]) 0x32702000 (.bexp 7 2) :=
  ⟨⟨rfl, rfl⟩, ⟨rfl, rfl⟩⟩

/-- Each clause of the saturation statement at its edge. -/
theorem witness_el_saturation :
    ((preload [(2, 0xFFFFFFFFFFFFFEA9)]).reg 2).toInt < -342 ∧ ((preload [(2, 0xFFFFFFFFFFFFFFBE)]).reg 2).toInt < -65 ∧
      ((preload [(2, 5)]).reg 3).getLsbD 0 = false ∧ (preload [(2, 5)]).reg 1 = 0 ∧
      (preload [(1, 1), (2, 309)]).reg 1 ≠ 0 ∧ (preload [(1, 1), (2, 309)]).reg 1 ≠ 0xFFFFFFFFFFFFFFFF ∧
      308 < ((preload [(1, 1), (2, 309)]).reg 2).toInt ∧ 38 < ((preload [(1, 1), (2, 39)]).reg 2).toInt := by
  decide +kernel

/-- Exponents at the edges of the safe window and of the exact tables, without truncation and with a nonzero mantissa. -/
theorem witness_el_windows :
    (1 : Reg) ≠ 0 ∧ ((preload [(1, 7), (2, 23)]).reg 3).getLsbD 0 = false ∧ (preload [(1, 7), (2, 23)]).reg 1 ≠ 0 ∧
      -27 ≤ ((preload [(1, 7), (2, 0xFFFFFFFFFFFFFFE5)]).reg 2).toInt ∧
      ((preload [(1, 7), (2, 55)]).reg 2).toInt ≤ 55 ∧ 0 ≤ ((preload [(1, 7), (2, 0)]).reg 2).toInt ∧
      ((preload [(1, 7), (2, 23)]).reg 2).toInt ≤ 23 ∧ ((preload [(1, 7), (2, 10)]).reg 2).toInt ≤ 10 := by
  decide +kernel

/-- AdjustedMantissas at the edges of what ASM64 and ASM32 accept. -/
theorem witness_asm_accepts :
    AsmAccepts 52 2047 (2 ^ 52 - 1) 0 ∧ AsmAccepts 52 2047 (2 ^ 53 - 1) 1 ∧ AsmAccepts 52 2047 (2 ^ 53 - 1) 2046 ∧
      AsmAccepts 52 2047 (2 ^ 64 - 1) 2047 ∧ AsmAccepts 23 255 (2 ^ 23 - 1) 0 ∧ AsmAccepts 23 255 (2 ^ 24 - 1) 254 ∧
      AsmAccepts 23 255 (2 ^ 64 - 1) 255 := by
  unfold AsmAccepts
  decide +kernel

/-- Operands just outside what ASM64 accepts. -/
theorem witness_asm64_rejects :
    Issues (preload [(2, 2048)]) 0x50701230 (.asm64 7 1 2 3) ∧ ((preload [(2, 0xFFFFFFFFFFFFFFFF)]).reg 2).toInt < 0 ∧
      2047 < ((preload [(2, 2048)]).reg 2).toInt ∧
      2 ^ 53 ≤ ((preload [(1, 0x20000000000000), (2, 2046)]).reg 1).toNat ∧
      2 ^ 52 ≤ ((preload [(1, 0x10000000000000)]).reg 1).toNat ∧
      ((preload [(1, 0x10000000000000)]).reg 2).toInt = 0 :=
  ⟨⟨rfl, rfl⟩, by decide +kernel⟩

/-- Operands just outside what ASM32 accepts. -/
theorem witness_asm32_rejects :
    Issues (preload [(2, 256)]) 0x51701230 (.asm32 7 1 2 3) ∧ ((preload [(2, 0xFFFFFFFFFFFFFFFF)]).reg 2).toInt < 0 ∧
      255 < ((preload [(2, 256)]).reg 2).toInt ∧ 2 ^ 24 ≤ ((preload [(1, 0x1000000), (2, 254)]).reg 1).toNat ∧
      2 ^ 23 ≤ ((preload [(1, 0x800000)]).reg 1).toNat ∧ ((preload [(1, 0x800000)]).reg 2).toInt = 0 :=
  ⟨⟨rfl, rfl⟩, by decide +kernel⟩

/-- An accepted pattern that ASM64 makes, for each clause of the read-back statement. -/
theorem witness_asm64_completes :
    leaves (exec (.asm64 7 1 2 3) (preload [(1, 1)])) 7 1 = true ∧
      leaves (exec (.asm64 7 1 2 3) (preload [(1, 1), (2, 2046)])) 7 0x7FE0000000000001 = true ∧
      leaves (exec (.asm64 7 1 2 3) (preload [(2, 2047), (3, 1)])) 7 0xFFF0000000000000 = true := by decide +kernel

/-- The same for ASM32. -/
theorem witness_asm32_completes :
    leaves (exec (.asm32 7 1 2 3) (preload [(1, 1)])) 7 1 = true ∧
      leaves (exec (.asm32 7 1 2 3) (preload [(1, 1), (2, 254)])) 7 0x7F000001 = true ∧
      leaves (exec (.asm32 7 1 2 3) (preload [(2, 255), (3, 1)])) 7 0xFF800000 = true := by decide +kernel

/-- EL answers that ASM accepts and that it rejects, for both clauses of the pair statements. -/
theorem witness_el_answers :
    nextHas (exec (.el64 5 6 1 2 3) (preload [(1, 1)])) (fun t => t.reg 6 != 0xFFFFFFFFFFFFFFFF) = true ∧
      nextHas (exec (.el64 5 6 1 2 3) (preload [(1, 1), (3, 1)])) (fun t => t.reg 6 == 0xFFFFFFFFFFFFFFFF) = true ∧
      nextHas (exec (.el32 5 6 1 2 3) (preload [(1, 1)])) (fun t => t.reg 6 != 0xFFFFFFFFFFFFFFFF) = true ∧
      nextHas (exec (.el32 5 6 1 2 3) (preload [(1, 1), (3, 1)])) (fun t => t.reg 6 == 0xFFFFFFFFFFFFFFFF) = true := by
  decide +kernel

/-- A command that completes and one that faults. -/
theorem witness_completion_and_fault :
    exec (.lzc64 4 3) State.reset = .next (State.reset.completed1 4 64) ∧
      exec (.dec8 3 1) State.reset = .next (State.reset.raised 0x20301000 .nondigitWindow 0) := ⟨rfl, rfl⟩

/-- A truthful faulted state, and a step from it. -/
theorem witness_truthful_faulted_state :
    StatusTruthful faultedState ∧ step (faultedState.pending .reset) = .next faultedState.resetBlock := by
  refine ⟨.inr ⟨rfl, .nondigitWindow, rfl, ⟨3, 1, rfl⟩, ?_⟩, rfl⟩
  unfold AllDigits
  decide +kernel

/-- Two states that agree on a command's source and differ elsewhere. -/
theorem witness_same_sources :
    (∀ r ∈ (Instr.lzc64 4 3).sources, State.reset.reg r = (preload [(9, 1)]).reg r) ∧
      exec (.lzc64 4 3) State.reset = .next (State.reset.completed1 4 64) ∧
      exec (.lzc64 4 3) (preload [(9, 1)]) = .next ((preload [(9, 1)]).completed1 4 64) :=
  ⟨by decide +kernel, rfl, rfl⟩

/-- Two commands with disjoint registers that both complete. -/
theorem witness_disjoint_commands :
    (∀ r ∈ (Instr.lzc64 4 3).dests, r ∉ (Instr.isspace 6 5).dests ∧ r ∉ (Instr.isspace 6 5).sources) ∧
      (∀ r ∈ (Instr.isspace 6 5).dests, r ∉ (Instr.lzc64 4 3).sources) ∧
      exec (.lzc64 4 3) State.reset = .next (State.reset.completed1 4 64) ∧
      (State.reset.completed1 4 64).pc = State.reset.pc + 1 ∧
      exec (.isspace 6 5) State.reset = .next (State.reset.completed1 6 0) ∧
      (State.reset.completed1 6 0).pc = State.reset.pc + 1 :=
  ⟨by decide, by decide, rfl, rfl, rfl, rfl⟩

/-- Two instances, one of which steps. -/
theorem witness_instances :
    stepInstance 1 [faultedState, State.reset.pending (.write 1 5)] =
      .next [faultedState, State.reset.setReg 1 5] ∧ (0 : Nat) ≠ 1 := ⟨rfl, by decide⟩

end Sys2Proof.Tests
end

/-! PROOFS. EL64 and EL32 round `w × 10^q` correctly for the small exponents at which the table entry is a shifted `5^q`
with nothing rounded off, so that the product of stages 3 and 4 is exact (spec/42_eisel_lemire.md section 5). The parts: the
table entry and the product; reading mantissa, round bit and tie off a 128-bit product; rounding in units of that product;
the core of EL on a small power; the two commands. -/

namespace Sys2Proof.SmallPowers

open Sys2Proof.Machine Sys2Proof.Claims

/-! ### Leading ones and the table entry -/

/-- Shifting the leading one of `v` to bit `k`. -/
theorem leadingOne_shift_bounds {v k : Nat} (hv : v ≠ 0) (h : v.log2 ≤ k) :
    2 ^ k ≤ v * 2 ^ (k - v.log2) ∧ v * 2 ^ (k - v.log2) < 2 ^ (k + 1) := by
  have hk : k = v.log2 + (k - v.log2) := by omega
  constructor
  · calc 2 ^ k = 2 ^ v.log2 * 2 ^ (k - v.log2) := by rw [← pow_add, ← hk]
      _ ≤ v * 2 ^ (k - v.log2) := Nat.mul_le_mul_right _ (Nat.log2_self_le hv)
  · calc v * 2 ^ (k - v.log2) < 2 ^ (v.log2 + 1) * 2 ^ (k - v.log2) :=
          Nat.mul_lt_mul_of_pos_right Nat.lt_log2_self (by positivity)
      _ = 2 ^ (k + 1) := by rw [← pow_add]; congr 1; omega

theorem log2_le_63 {w : Nat} (hw : w ≠ 0) (hlt : w < 2 ^ 64) : w.log2 ≤ 63 := by
  have := (Nat.log2_lt hw).2 hlt
  omega

theorem leadingZeros_eq {w : Nat} (hw : w ≠ 0) : leadingZeros w = 63 - w.log2 := if_neg hw

theorem normalisedMantissa_eq {w : Nat} (hw : w ≠ 0) (hlt : w < 2 ^ 64) :
    normalisedMantissa w = w * 2 ^ (63 - w.log2) := by
  rw [normalisedMantissa, leadingZeros_eq hw, Nat.shiftLeft_eq]
  exact Nat.mod_eq_of_lt (leadingOne_shift_bounds hw (log2_le_63 hw hlt)).2

theorem romIndex_natCast (n : Nat) : romIndex n = 2 * (n + 342) := by
  simp only [romIndex, qMin]
  omega

theorem powerOfFive_row (n : Nat) : powerOfFive (((n + 342 : Nat) : Int) + qMin) = powerUp n := by
  have h : ((n + 342 : Nat) : Int) + qMin = n := by simp only [qMin]; omega
  rw [h, powerOfFive, if_pos (Int.natCast_nonneg n), Int.toNat_natCast]

theorem romWord_high (n : Nat) : romWord (romIndex n) = powerUp n / 2 ^ 64 := by
  rw [romIndex_natCast, romWord, if_pos (by omega), Nat.mul_div_cancel_left _ (by norm_num), powerOfFive_row]

theorem romWord_low (n : Nat) : romWord (romIndex n + 1) = powerUp n % 2 ^ 64 := by
  have h : (2 * (n + 342) + 1) / 2 = n + 342 := by omega
  rw [romIndex_natCast, romWord, if_neg (by omega), h, powerOfFive_row]

theorem log2_five_pow_lt {n N k : Nat} (hn : n ≤ N) (hk : 5 ^ N < 2 ^ k) : (5 ^ n).log2 < k :=
  (Nat.log2_lt (by positivity)).2 ((Nat.pow_le_pow_right (by norm_num) hn).trans_lt hk)

/-- The small powers of five leave the top bit of a 64-bit word free. -/
theorem log2_five_pow_le {n : Nat} (hn : n ≤ 23) : (5 ^ n).log2 ≤ 62 :=
  Nat.le_of_lt_succ (log2_five_pow_lt hn (by norm_num))

/-- For a small power the entry is `5^n` shifted up, and its low word is 0 (R42). -/
theorem powerUp_eq {n : Nat} (hn : n ≤ 23) : powerUp n = 5 ^ n * 2 ^ (63 - (5 ^ n).log2) * 2 ^ 64 := by
  have h := log2_five_pow_le hn
  rw [powerUp, normalise128, if_pos (by omega), Nat.shiftLeft_eq, mul_assoc, ← pow_add]
  congr 2
  omega

/-- The estimate of R134 is exact for the small powers. -/
theorem binaryExponent_eq {n : Nat} (hn : n ≤ 23) : binaryExponent n = n + (5 ^ n).log2 + 63 := by
  have all : ∀ k : Fin 24, binaryExponent (k.val : Int) = (k.val : Int) + (5 ^ k.val).log2 + 63 := by decide +kernel
  exact all ⟨n, by omega⟩

/-! ### The product -/

/-- The product of the two normalised factors: `w × 5^n` shifted up. -/
def exactProduct (w n : Nat) : Nat := w * 2 ^ (63 - w.log2) * (5 ^ n * 2 ^ (63 - (5 ^ n).log2))

/-- Adding 0 to the low word of a product changes nothing. -/
theorem addToLow_zero {p : Value128} (h : p.lo < 2 ^ 64) : addToLow p 0 = p := by
  simp only [addToLow, Nat.add_zero, Nat.mod_eq_of_lt h, Nat.not_lt_zero, if_false]

/-- Whether or not stage 4 refines, the product is exact: the low word of the entry is 0. -/
theorem elProduct_eq (F : Format) {w n : Nat} (hw : w ≠ 0) (hlt : w < 2 ^ 64) (hn : n ≤ 23) :
    elProduct F w n = value128 (exactProduct w n) := by
  have high : romWord (romIndex n) = 5 ^ n * 2 ^ (63 - (5 ^ n).log2) := by
    rw [romWord_high, powerUp_eq hn, Nat.mul_div_cancel _ (by positivity)]
  have low : romWord (romIndex n + 1) = 0 := by rw [romWord_low, powerUp_eq hn, Nat.mul_mod_left]
  have first : firstProduct (normalisedMantissa w) n = value128 (exactProduct w n) := by
    rw [firstProduct, high, normalisedMantissa_eq hw hlt]
    rfl
  have second : (fullMultiply (normalisedMantissa w) 0).hi = 0 := by simp [fullMultiply, value128]
  rw [elProduct, refinedProduct, first, low, second]
  split
  · exact addToLow_zero (Nat.mod_lt _ (by norm_num))
  · rfl

theorem exactProduct_bounds {w n : Nat} (hw : w ≠ 0) (hlt : w < 2 ^ 64) (hn : n ≤ 23) :
    2 ^ 126 ≤ exactProduct w n ∧ exactProduct w n < 2 ^ 128 := by
  obtain ⟨wLo, wHi⟩ := leadingOne_shift_bounds hw (log2_le_63 hw hlt)
  obtain ⟨pLo, pHi⟩ := leadingOne_shift_bounds (v := 5 ^ n) (k := 63) (by positivity)
    ((log2_five_pow_le hn).trans (by norm_num))
  have lower := Nat.mul_le_mul wLo pLo
  have upper := Nat.mul_lt_mul'' wHi pHi
  norm_num only at lower upper ⊢
  exact ⟨lower, upper⟩

/-- The table entry has a zero below its 63 bits, so a low word of the product is never 1. -/
theorem exactProduct_even (w : Nat) {n : Nat} (hn : n ≤ 23) : exactProduct w n % 2 = 0 := by
  have h := log2_five_pow_le hn
  have h2 : 2 ∣ 2 ^ (63 - (5 ^ n).log2) := dvd_pow_self 2 (by omega)
  exact Nat.mod_eq_zero_of_dvd (dvd_mul_of_dvd_right (dvd_mul_of_dvd_right h2 _) _)

/-- What the product stands for. -/
theorem mul_ten_pow_eq {w n : Nat} (hw : w ≠ 0) (hlt : w < 2 ^ 64) (hn : n ≤ 23) :
    (w : ℚ) * 10 ^ n = exactProduct w n * 2 ^ ((n : ℤ) + (5 ^ n).log2 + w.log2 - 126) := by
  have hw63 := log2_le_63 hw hlt
  have h5 := log2_five_pow_le hn
  have e : (n : ℤ) = ((63 - w.log2 : Nat) : ℤ) + ((63 - (5 ^ n).log2 : Nat) : ℤ) +
      ((n : ℤ) + (5 ^ n).log2 + w.log2 - 126) := by omega
  have two : (2 : ℚ) ^ n = 2 ^ (63 - w.log2) * 2 ^ (63 - (5 ^ n).log2) *
      2 ^ ((n : ℤ) + (5 ^ n).log2 + w.log2 - 126) := by
    conv_lhs => rw [← zpow_natCast, e]
    rw [zpow_add₀ two_ne_zero, zpow_add₀ two_ne_zero, zpow_natCast, zpow_natCast]
  have ten : (10 : ℚ) ^ n = 5 ^ n * 2 ^ n := by rw [← mul_pow]; norm_num
  rw [ten, two]
  simp only [exactProduct, Nat.cast_mul, Nat.cast_pow, Nat.cast_ofNat]
  ring

/-! ### Mantissa, round bit and tie of a product -/

/-- How many low bits of the 128-bit product stage 6 drops. -/
def droppedBits (F : Format) (P : Nat) : Nat := 64 + extractShift F (value128 P)

theorem extractedMantissa_eq (F : Format) (P : Nat) :
    extractedMantissa F (value128 P) = P / 2 ^ droppedBits F P := by
  rw [extractedMantissa, Nat.shiftRight_eq_div_pow, droppedBits, pow_add]
  exact Nat.div_div_eq_div_mul ..

/-- The upper bit is bit 127 and says in which binade the product lies. -/
theorem upperBit_bounds {P : Nat} (hlo : 2 ^ 126 ≤ P) (hhi : P < 2 ^ 128) :
    upperBit (value128 P) ≤ 1 ∧ 2 ^ (126 + upperBit (value128 P)) ≤ P ∧ P < 2 ^ (127 + upperBit (value128 P)) := by
  have h : upperBit (value128 P) = P / 2 ^ 127 := by
    simp only [upperBit, value128]
    omega
  rw [h]
  obtain h0 | h1 : P / 2 ^ 127 = 0 ∨ P / 2 ^ 127 = 1 := by omega
  · rw [h0]; omega
  · rw [h1]; omega

theorem droppedBits_eq (F : Format) (P : Nat) (heb : F.eb ≤ 52) :
    droppedBits F P + F.eb = 125 + upperBit (value128 P) := by
  simp only [droppedBits, extractShift]
  omega

/-- What stage 6 keeps of the product are `EB + 2` bits, the lowest of them the round bit (R158). -/
theorem keptBits_bounds {F : Format} {P : Nat} (heb : F.eb ≤ 52) (hlo : 2 ^ 126 ≤ P) (hhi : P < 2 ^ 128) :
    2 ^ (F.eb + 1) * 2 ^ droppedBits F P ≤ P ∧ P < 2 ^ (F.eb + 2) * 2 ^ droppedBits F P := by
  obtain ⟨-, lower, upper⟩ := upperBit_bounds hlo hhi
  have e := droppedBits_eq F P heb
  rw [← pow_add, ← pow_add, show F.eb + 1 + droppedBits F P = 126 + upperBit (value128 P) by omega,
    show F.eb + 2 + droppedBits F P = 127 + upperBit (value128 P) by omega]
  exact ⟨lower, upper⟩

/-- An even product is a multiple of what stage 6 drops exactly where the test of R160 says so. -/
theorem tieTest_iff (F : Format) {P : Nat} (even : P % 2 = 0) (hhi : P < 2 ^ 128) :
    ((value128 P).lo ≤ 1 ∧
        (P / 2 ^ droppedBits F P) <<< extractShift F (value128 P) % 2 ^ 64 = (value128 P).hi) ↔
      P % 2 ^ droppedBits F P = 0 := by
  generalize hk : extractShift F (value128 P) = k
  have hd : droppedBits F P = 64 + k := by rw [droppedBits, hk]
  have le : P / 2 ^ 64 / 2 ^ k * 2 ^ k ≤ P / 2 ^ 64 := Nat.div_mul_le_self ..
  have back : P / 2 ^ 64 / 2 ^ k * 2 ^ k % 2 ^ 64 = P / 2 ^ 64 / 2 ^ k * 2 ^ k := Nat.mod_eq_of_lt (by omega)
  have divMod := Nat.div_add_mod' (P / 2 ^ 64) (2 ^ k)
  rw [hd, pow_add, ← Nat.div_div_eq_div_mul, Nat.shiftLeft_eq, back, Nat.mod_mul]
  simp only [value128]
  constructor
  · rintro ⟨low, high⟩
    have h0 : P % 2 ^ 64 = 0 := by omega
    have h1 : P / 2 ^ 64 % 2 ^ k = 0 := by omega
    rw [h0, h1, mul_zero, add_zero]
  · intro h
    have h0 : P % 2 ^ 64 = 0 := by omega
    have h1 : P / 2 ^ 64 % 2 ^ k = 0 := by omega
    exact ⟨by omega, by omega⟩

/-- Stage 8 on an even product: the round bit goes on an exact tie above an even bit (R160). -/
theorem clearTie_eq {F : Format} {q : Int} {P : Nat} (lo : F.rteLo ≤ q) (hi : q ≤ F.rteHi) (even : P % 2 = 0)
    (hhi : P < 2 ^ 128) :
    clearTie F q (value128 P) (P / 2 ^ droppedBits F P) =
      if P % 2 ^ droppedBits F P = 0 ∧ P / 2 ^ droppedBits F P % 4 = 1 then P / 2 ^ droppedBits F P - 1
      else P / 2 ^ droppedBits F P := by
  have tie := tieTest_iff F even hhi
  rw [clearTie]
  refine if_congr ?_ rfl rfl
  rw [← tie]
  exact ⟨fun ⟨low, _, _, four, high⟩ => ⟨⟨low, high⟩, four⟩, fun ⟨⟨low, high⟩, four⟩ => ⟨low, lo, hi, four, high⟩⟩

/-! ### Rounding in units of the product -/

/-- `2r × 2^k` is a multiple of `2 × 2^k` nearest to `P`, with `r` even when two are equally near. -/
structure RoundsTo (P k r : Nat) : Prop where
  above : 2 * r * 2 ^ k ≤ P + 2 ^ k
  below : P ≤ 2 * r * 2 ^ k + 2 ^ k
  tie : 2 * r * 2 ^ k = P + 2 ^ k ∨ P = 2 * r * 2 ^ k + 2 ^ k → r % 2 = 0

/-- An even mantissa `2r` already is the rounding. -/
theorem roundsTo_of_even {P k r d : Nat} (hP : P = 2 * r * 2 ^ k + d) (hd : d < 2 ^ k) : RoundsTo P k r := by
  constructor <;> omega

/-- An odd mantissa `2r − 1` goes up to `r`, which must be even where nothing is left below the round bit. -/
theorem roundsTo_of_roundUp {P k r d : Nat} (hP : P + 2 ^ k = 2 * r * 2 ^ k + d) (hd : d < 2 ^ k)
    (tie : d = 0 → r % 2 = 0) : RoundsTo P k r := by
  constructor <;> omega

/-- An exact tie above an even `r` goes down. -/
theorem roundsTo_of_tieDown {P k r : Nat} (hP : P = 2 * r * 2 ^ k + 2 ^ k) (even : r % 2 = 0) : RoundsTo P k r := by
  have pos : 0 < 2 ^ k := by positivity
  exact ⟨by omega, by omega, fun _ => even⟩

/-- Stages 8 and 9: clearing the round bit on a tie above an even bit, then rounding half up on it, is rounding to nearest,
ties to even. -/
theorem roundOnLowBit_roundsTo (P k : Nat) :
    RoundsTo P k (roundOnLowBit (if P % 2 ^ k = 0 ∧ P / 2 ^ k % 4 = 1 then P / 2 ^ k - 1 else P / 2 ^ k)) := by
  have divMod := Nat.div_add_mod' P (2 ^ k)
  have rest : P % 2 ^ k < 2 ^ k := Nat.mod_lt _ (by positivity)
  generalize P / 2 ^ k = m at *
  generalize P % 2 ^ k = d at *
  simp only [roundOnLowBit, Nat.shiftRight_eq_div_pow, pow_one]
  obtain ⟨r, rfl | rfl⟩ : ∃ r, m = 2 * r ∨ m = 2 * r + 1 := ⟨m / 2, by omega⟩
  · rw [if_neg (by omega), show (2 * r + 2 * r % 2) / 2 = r by omega]
    exact roundsTo_of_even divMod.symm rest
  · by_cases tie : d = 0 ∧ (2 * r + 1) % 4 = 1
    · rw [if_pos tie, show (2 * r + 1 - 1 + (2 * r + 1 - 1) % 2) / 2 = r by omega]
      exact roundsTo_of_tieDown (by rw [← divMod, tie.1]; ring) (by omega)
    · rw [if_neg tie, show (2 * r + 1 + (2 * r + 1) % 2) / 2 = r + 1 by omega]
      exact roundsTo_of_roundUp (by rw [← divMod]; ring) rest (by omega)

/-- What is rounded to `2M` is rounded to `M` in units twice as large, and lies above it or by at most a quarter of such a
unit below. -/
theorem RoundsTo.renormalise {P k M : Nat} (h : RoundsTo P k (2 * M)) :
    RoundsTo P (k + 1) M ∧ 2 * (2 * M * 2 ^ (k + 1)) ≤ 2 * P + 2 ^ (k + 1) := by
  obtain ⟨above, below, -⟩ := h
  have e : 2 * M * 2 ^ (k + 1) = 2 * (2 * M) * 2 ^ k := by ring
  have pos : 0 < 2 ^ k := by positivity
  refine ⟨⟨?_, ?_, ?_⟩, ?_⟩ <;> rw [e] <;> omega

/-- Rounding in units of the product is rounding of the number `x` the product stands for. The last hypothesis is the binade
boundary's. -/
theorem RoundsTo.nearestEven {P k r eb : Nat} {bias p2 : Int} {x : ℚ} (h : RoundsTo P k r) (lo : 2 ^ eb ≤ r)
    (hi : r < 2 ^ (eb + 1)) (boundary : r = 2 ^ eb → 2 * (2 * r * 2 ^ k) ≤ 2 * P + 2 ^ k)
    (hx : x = P * 2 ^ (p2 - bias - eb - (k + 1))) : NearestEven eb bias x r p2 := by
  obtain ⟨above, below, tie⟩ := h
  have unit : (2 : ℚ) ^ (p2 - bias - eb) = 2 * 2 ^ k * 2 ^ (p2 - bias - eb - (k + 1)) := by
    rw [← pow_succ', ← zpow_natCast, ← zpow_add₀ two_ne_zero]
    congr 1
    push_cast
    ring
  have pos : (0 : ℚ) < 2 ^ (p2 - bias - eb - (k + 1)) := by positivity
  rw [NearestEven, unit, hx]
  generalize (2 : ℚ) ^ (p2 - bias - eb - (k + 1)) = v at *
  have error : (r : ℚ) * (2 * 2 ^ k * v) - P * v = (2 * r * 2 ^ k - P) * v := by ring
  have aboveQ : 2 * (r : ℚ) * 2 ^ k ≤ P + 2 ^ k := by exact_mod_cast above
  have belowQ : (P : ℚ) ≤ 2 * r * 2 ^ k + 2 ^ k := by exact_mod_cast below
  rw [error, abs_mul, abs_of_pos pos, show 2 * 2 ^ k * v / 2 = 2 ^ k * v by ring]
  refine ⟨lo, hi, ?_, ?_, ?_⟩
  · exact mul_le_mul_of_nonneg_right (abs_le.2 ⟨by linarith, by linarith⟩) pos.le
  · intro eq
    have half := mul_right_cancel₀ pos.ne' eq
    apply tie
    obtain up | down := (abs_eq (by positivity)).1 half
    · exact .inl (by exact_mod_cast (by linarith : 2 * (r : ℚ) * 2 ^ k = P + 2 ^ k))
    · exact .inr (by exact_mod_cast (by linarith : (P : ℚ) = 2 * r * 2 ^ k + 2 ^ k))
  · intro eq
    have quarter : 2 * (2 * (r : ℚ) * 2 ^ k) ≤ 2 * P + 2 ^ k := by exact_mod_cast boundary eq
    rw [show 2 * 2 ^ k * v / 4 = 2 ^ k / 2 * v by ring]
    exact mul_le_mul_of_nonneg_right (by linarith) pos.le

/-- Stages 9 to 11 when the exponent stays below `INF`: the rounded mantissa, or `2^EB` in the next binade. -/
theorem roundNormal_cases {F : Format} (m : Nat) {p2 : Int} (small : p2 + 1 < F.inf) :
    (roundOnLowBit m < 2 ^ (F.eb + 1) ∧ roundNormal F m p2 = ⟨roundOnLowBit m, p2⟩) ∨
      (2 ^ (F.eb + 1) ≤ roundOnLowBit m ∧ roundNormal F m p2 = ⟨2 ^ F.eb, p2 + 1⟩) := by
  by_cases h : 2 ^ (F.eb + 1) ≤ roundOnLowBit m
  · exact .inr ⟨h, by simp only [roundNormal, if_pos h]; exact if_neg (by omega)⟩
  · exact .inl ⟨by omega, by simp only [roundNormal, if_neg h]; exact if_neg (by omega)⟩

/-- The rounding of a product with `EB + 2` kept bits is a mantissa of `EB + 1` bits or the next power of two. -/
theorem RoundsTo.mantissa_bounds {P k r eb : Nat} (h : RoundsTo P k r) (lower : 2 ^ (eb + 1) * 2 ^ k ≤ P)
    (upper : P < 2 ^ (eb + 2) * 2 ^ k) : 2 ^ eb ≤ r ∧ r ≤ 2 ^ (eb + 1) := by
  obtain ⟨above, below, -⟩ := h
  have pos : 0 < 2 ^ k := by positivity
  constructor
  · by_contra! lt
    have : (2 * r + 1 + 1) * 2 ^ k ≤ 2 ^ (eb + 1) * 2 ^ k := Nat.mul_le_mul_right _ (by omega)
    have : (2 * r + 1 + 1) * 2 ^ k = 2 * r * 2 ^ k + 2 ^ k + 2 ^ k := by ring
    omega
  · by_contra! lt
    have double : 2 ^ (eb + 2) = 2 * 2 ^ (eb + 1) := pow_succ' ..
    have : (2 ^ (eb + 2) + 1) * 2 ^ k ≤ 2 * r * 2 ^ k := Nat.mul_le_mul_right _ (by omega)
    have : (2 ^ (eb + 2) + 1) * 2 ^ k = 2 ^ (eb + 2) * 2 ^ k + 2 ^ k := by ring
    omega

/-- Stages 9 to 11 give the value nearest to what the product stands for, in the binade of the product or, when rounding
reaches the next one, there. -/
theorem roundNormal_nearestEven {F : Format} {P k m : Nat} {p2 : Int} {x : ℚ} (h : RoundsTo P k (roundOnLowBit m))
    (lower : 2 ^ (F.eb + 1) * 2 ^ k ≤ P) (upper : P < 2 ^ (F.eb + 2) * 2 ^ k) (small : p2 + 1 < F.inf)
    (hx : x = P * 2 ^ (p2 + F.minExp - F.eb - (k + 1))) :
    ∃ r p, roundNormal F m p2 = ⟨r, p⟩ ∧ p2 ≤ p ∧ p < F.inf ∧ NearestEven F.eb (-F.minExp) x r p := by
  obtain ⟨rLo, rHi⟩ := h.mantissa_bounds lower upper
  have pos : 0 < 2 ^ k := by positivity
  obtain ⟨lt, eq⟩ | ⟨ge, eq⟩ := roundNormal_cases m small
  · refine ⟨_, _, eq, le_rfl, by omega, h.nearestEven rLo lt (fun least => ?_) (by rw [hx, sub_neg_eq_add])⟩
    have : 2 * roundOnLowBit m * 2 ^ k = 2 ^ (F.eb + 1) * 2 ^ k := by rw [least, ← pow_succ']
    omega
  · have double : roundOnLowBit m = 2 * 2 ^ F.eb := by rw [← pow_succ']; omega
    rw [double] at h
    obtain ⟨next, boundary⟩ := h.renormalise
    refine ⟨_, _, eq, by omega, small, next.nearestEven le_rfl ?_ (fun _ => boundary) ?_⟩
    · exact Nat.pow_lt_pow_right (by norm_num) (by omega)
    · rw [hx]
      congr 2
      push_cast
      ring

/-! ### The approximator on small powers -/

/-- A small power of a format: the windows of R151 that the stages ask about hold it, its table entry is exact, and no
product with it leaves the normal range. -/
structure SmallPower (F : Format) (n : Nat) : Prop where
  eb_le : F.eb ≤ 52
  n_le : n ≤ 23
  range : F.qLo ≤ n ∧ n ≤ F.qHi
  safe : F.safeLo ≤ n ∧ n ≤ F.safeHi
  tie : F.rteLo ≤ n ∧ n ≤ F.rteHi
  minExp_neg : F.minExp < 0
  inf_large : (n : Int) + (5 ^ n).log2 + 65 - F.minExp < F.inf

theorem smallPower_binary64 {n : Nat} (hn : n ≤ 23) : SmallPower binary64 n := by
  have h := log2_five_pow_le hn
  refine ⟨?_, hn, ?_, ?_, ?_, ?_, ?_⟩ <;> simp only [binary64] <;> omega

theorem smallPower_binary32 {n : Nat} (hn : n ≤ 10) : SmallPower binary32 n := by
  have h := log2_five_pow_lt (k := 24) hn (by norm_num)
  refine ⟨?_, by omega, ?_, ?_, ?_, ?_, ?_⟩ <;> simp only [binary32] <;> omega

section
variable {F : Format} {w n : Nat}

/-- The exponent of stage 6 on a small power. -/
theorem extractedPower_eq (small : SmallPower F n) (hw : w ≠ 0) (hlt : w < 2 ^ 64) :
    extractedPower F w n (value128 (exactProduct w n)) =
      n + (5 ^ n).log2 + w.log2 + upperBit (value128 (exactProduct w n)) - F.minExp := by
  have h := log2_le_63 hw hlt
  rw [extractedPower, binaryExponent_eq small.n_le, leadingZeros_eq hw]
  omega

/-- The range and the ambiguity test let a small power through to the rounding. -/
theorem elCore_smallPower (small : SmallPower F n) (hw : w ≠ 0) (hlt : w < 2 ^ 64) :
    elCore F w n = .value (roundProduct F w n (value128 (exactProduct w n))) := by
  obtain ⟨lo, hi⟩ := small.range
  obtain ⟨safeLo, safeHi⟩ := small.safe
  rw [← elProduct_eq F hw hlt small.n_le]
  obtain ⟨am, sat, -⟩ | ⟨-, amb, -⟩ | ⟨-, -, value⟩ := elCore_cases F w n
  · obtain ⟨zero | low, -⟩ | ⟨-, -, high, -⟩ | ⟨-, -, -, none⟩ := saturated_cases F w n
    · exact absurd zero hw
    · omega
    · omega
    · simp [none] at sat
  · simp only [ambiguous, Bool.and_eq_true, Bool.or_eq_true, decide_eq_true_eq] at amb
    omega
  · exact value

/-- A small power is never subnormal, so its product goes through stages 8 to 11. -/
theorem roundProduct_smallPower (small : SmallPower F n) (hw : w ≠ 0) (hlt : w < 2 ^ 64) :
    roundProduct F w n (value128 (exactProduct w n)) =
      roundNormal F (clearTie F n (value128 (exactProduct w n)) (extractedMantissa F (value128 (exactProduct w n))))
        (extractedPower F w n (value128 (exactProduct w n))) := by
  have h := extractedPower_eq small hw hlt
  have neg := small.minExp_neg
  exact if_neg (by omega)

/-- EL's core rounds `w × 10^n` to nearest, ties to even, for a small power. -/
theorem elCore_nearestEven (small : SmallPower F n) (hw : w ≠ 0) (hlt : w < 2 ^ 64) :
    ∃ m p2, elCore F w n = .value ⟨m, p2⟩ ∧ 1 ≤ p2 ∧ p2 < F.inf ∧
      NearestEven F.eb (-F.minExp) ((w : ℚ) * 10 ^ n) m p2 := by
  obtain ⟨productLo, productHi⟩ := exactProduct_bounds hw hlt small.n_le
  obtain ⟨upperLe, -, -⟩ := upperBit_bounds productLo productHi
  obtain ⟨keptLo, keptHi⟩ := keptBits_bounds small.eb_le productLo productHi
  have power := extractedPower_eq small hw hlt
  have dropped := droppedBits_eq F (exactProduct w n) small.eb_le
  have rounds := roundOnLowBit_roundsTo (exactProduct w n) (droppedBits F (exactProduct w n))
  have log63 := log2_le_63 hw hlt
  have neg := small.minExp_neg
  have large := small.inf_large
  obtain ⟨tieLo, tieHi⟩ := small.tie
  rw [← clearTie_eq tieLo tieHi (exactProduct_even w small.n_le) productHi, ← extractedMantissa_eq] at rounds
  obtain ⟨m, p2, eq, le, lt, near⟩ := roundNormal_nearestEven (x := (w : ℚ) * 10 ^ n)
    (p2 := extractedPower F w n (value128 (exactProduct w n))) rounds keptLo keptHi (by omega) (by
      rw [mul_ten_pow_eq hw hlt small.n_le]
      congr 2
      omega)
  refine ⟨m, p2, ?_, by omega, lt, near⟩
  rw [elCore_smallPower small hw hlt, roundProduct_smallPower small hw hlt, eq]

end

/-! ### The commands -/

/-- Without truncation EL answers what its core answers (R163). -/
theorem elAnswer_of_not_truncated (F : Format) {rs1 rs2 rs3 : Reg} {s : State} (t : (s.reg rs3).getLsbD 0 = false) :
    elAnswer F rs1 rs2 rs3 s = elCore F (s.reg rs1).toNat (s.reg rs2).toInt := by
  simp only [elAnswer, elApprox, readU64, readS64, readBit0, t, Bool.false_and, Bool.false_eq_true, if_false]

/-- The answer of EL for a nonzero mantissa and a small power, without truncation. -/
theorem elAnswer_nearestEven {F : Format} {s : State} {rs1 rs2 rs3 : Reg} (t : (s.reg rs3).getLsbD 0 = false)
    (hw : s.reg rs1 ≠ 0) (nonneg : 0 ≤ (s.reg rs2).toInt) (small : SmallPower F (s.reg rs2).toInt.toNat) :
    ∃ m p2, elAnswer F rs1 rs2 rs3 s = .value ⟨m, p2⟩ ∧ 1 ≤ p2 ∧ p2 < F.inf ∧
      NearestEven F.eb (-F.minExp) (((s.reg rs1).toNat : ℚ) * 10 ^ (s.reg rs2).toInt) m p2 := by
  obtain ⟨n, hn⟩ := Int.eq_ofNat_of_zero_le nonneg
  rw [hn, Int.toNat_natCast] at small
  rw [elAnswer_of_not_truncated F t, hn, zpow_natCast]
  exact elCore_nearestEven small (fun zero => hw (BitVec.eq_of_toNat_eq zero)) (s.reg rs1).isLt

theorem exec_el64_of_ne {rd rd2 : Reg} (h : rd ≠ rd2) (rs1 rs2 rs3 : Reg) (s : State) :
    exec (.el64 rd rd2 rs1 rs2 rs3) s = .next (s.completed2 rd rd2 (elAnswer binary64 rs1 rs2 rs3 s).mantissaWord
      (elAnswer binary64 rs1 rs2 rs3 s).power2Word) := checkDests_of_ne h ..

theorem exec_el32_of_ne {rd rd2 : Reg} (h : rd ≠ rd2) (rs1 rs2 rs3 : Reg) (s : State) :
    exec (.el32 rd rd2 rs1 rs2 rs3) s = .next (s.completed2 rd rd2 (elAnswer binary32 rs1 rs2 rs3 s).mantissaWord
      (elAnswer binary32 rs1 rs2 rs3 s).power2Word) := checkDests_of_ne h ..

/-- A completion with an answer of EL leaves the answer's encodings in its destinations (R162). -/
theorem completed2_answer {rd rd2 : Reg} (h : rd ≠ rd2) (s : State) {a : Approximation} {m : Nat} {p2 : Int}
    (ha : a = .value ⟨m, p2⟩) :
    (s.completed2 rd rd2 a.mantissaWord a.power2Word).reg rd = BitVec.ofNat 64 m ∧
      (s.completed2 rd rd2 a.mantissaWord a.power2Word).reg rd2 = BitVec.ofInt 64 p2 := by
  obtain ⟨first, second, -⟩ := completed2_frame s a.mantissaWord a.power2Word h
  subst ha
  exact ⟨first, second⟩

/-- Settles O37: up to `10^23` the product is exact, and stages 6 to 11 round it. -/
theorem el64RoundsSmallPowersCorrectly : Obligations.El64RoundsSmallPowersCorrectly := by
  intro s rd rd2 rs1 rs2 rs3 hne t hw nonneg le
  obtain ⟨m, p2, answer, pos, lt, near⟩ :=
    elAnswer_nearestEven t hw nonneg (smallPower_binary64 (Int.toNat_le.2 le))
  obtain ⟨mantissa, power⟩ := completed2_answer hne s answer
  exact ⟨_, m, p2, exec_el64_of_ne hne .., mantissa, power, pos, Int.le_of_lt_add_one lt, near⟩

/-- Settles O38: up to `10^10`, the last exponent of the tie window of binary32, the same argument holds there. -/
theorem el32RoundsSmallPowersCorrectly : Obligations.El32RoundsSmallPowersCorrectly := by
  intro s rd rd2 rs1 rs2 rs3 hne t hw nonneg le
  obtain ⟨m, p2, answer, pos, lt, near⟩ :=
    elAnswer_nearestEven t hw nonneg (smallPower_binary32 (Int.toNat_le.2 le))
  obtain ⟨mantissa, power⟩ := completed2_answer hne s answer
  exact ⟨_, m, p2, exec_el32_of_ne hne .., mantissa, power, pos, Int.le_of_lt_add_one lt, near⟩

end Sys2Proof.SmallPowers

/-! PROOFS. What the host's operations and a command do to the state of spec/10_state.md. The parts: the effect of a
command, which its source registers decide (sections 6 and 7); the host's operations and the step (section 7); the count
of completed commands (section 3); the status registers (sections 5 and 8); several instances (section 9). -/

namespace Sys2Proof.StateRules

open Sys2Proof.Machine Sys2Proof.Claims

/-! ### Writing several registers -/

/-- The state after a list of register writes, the first one first. -/
def setRegs (writes : List (Reg × Word)) (s : State) : State :=
  writes.foldl (fun u write => u.setReg write.1 write.2) s

@[simp] theorem setRegs_nil (s : State) : setRegs [] s = s := rfl
@[simp] theorem setRegs_cons (write : Reg × Word) (writes : List (Reg × Word)) (s : State) :
    setRegs (write :: writes) s = setRegs writes (s.setReg write.1 write.2) := rfl

/-- Register writes touch nothing but registers. -/
theorem setRegs_pc_mode (writes : List (Reg × Word)) (s : State) :
    (setRegs writes s).pc = s.pc ∧ (setRegs writes s).mode = s.mode := by
  induction writes generalizing s with
  | nil => exact ⟨rfl, rfl⟩
  | cons write writes ih => exact ih (s.setReg write.1 write.2)

/-- Where two states agree on a register, or the register is written, the same writes leave the same value. -/
theorem reg_setRegs_congr {writes : List (Reg × Word)} {s s' : State} {r : Reg}
    (h : s.reg r = s'.reg r ∨ r ∈ writes.map Prod.fst) : (setRegs writes s).reg r = (setRegs writes s').reg r := by
  induction writes generalizing s s' with
  | nil => simpa using h
  | cons write writes ih =>
    refine ih ?_
    by_cases hr : r = write.1
    · exact .inl (by simp [hr])
    · simpa [State.reg_setReg_ne, hr] using h

/-! ### The effect of a command -/

/-- What a command does: the registers it writes when it completes, or the fault it takes. -/
inductive Effect where
  | complete (writes : List (Reg × Word))
  | fault (cw : CommandWord) (cause : Cause) (info : Word)

/-- The state an effect makes of the state before the command (R31, R212). -/
def Effect.apply : Effect → State → State
  | .complete writes, s => (setRegs writes s).advance
  | .fault cw cause info, s => s.raised cw cause info

/-- A completion writes exactly the given registers; a fault writes none. -/
def Effect.Writes : Effect → List Reg → Prop
  | .complete writes, dests => writes.map Prod.fst = dests
  | .fault _ _ _, _ => True

/-- Two results are one effect, on the states `s` and `s'`. -/
def SameEffect (dests : List Reg) (s s' : State) (result result' : Result) : Prop :=
  ∃ e : Effect, e.Writes dests ∧ result = .next (e.apply s) ∧ result' = .next (e.apply s')

section
variable (s s' : State)

theorem sameEffect_complete1 (rd : Reg) (v : Word) : SameEffect [rd] s s' (complete1 rd v s) (complete1 rd v s') :=
  ⟨.complete [(rd, v)], rfl, rfl, rfl⟩

theorem sameEffect_complete2 (rd rd2 : Reg) (v v2 : Word) :
    SameEffect [rd, rd2] s s' (complete2 rd rd2 v v2 s) (complete2 rd rd2 v v2 s') :=
  ⟨.complete [(rd, v), (rd2, v2)], rfl, rfl, rfl⟩

theorem sameEffect_takeFault (dests : List Reg) (cw : CommandWord) (cause : Cause) (info : Word) :
    SameEffect dests s s' (takeFault cw cause info s) (takeFault cw cause info s') :=
  ⟨.fault cw cause info, trivial, rfl, rfl⟩

end

section
variable {dests : List Reg} {s s' : State} {a a' b b' : Result}

theorem SameEffect.ite (c : Prop) [Decidable c] (yes : SameEffect dests s s' a a') (no : SameEffect dests s s' b b') :
    SameEffect dests s s' (if c then a else b) (if c then a' else b') := by
  split
  · exact yes
  · exact no

/-- The check of R67 reads no register, so it keeps an effect the same. -/
theorem SameEffect.checkDests (cw : CommandWord) (rd rd2 : Reg) (body : SameEffect dests s s' a a') :
    SameEffect dests s s' (checkDests cw rd rd2 s a) (checkDests cw rd rd2 s' a') :=
  .ite _ (sameEffect_takeFault s s' dests cw .illegalCommand 0) body

end

/-! ### A command's sources decide its effect (R29) -/

/-- ASM in either format depends on its three operands alone (R190, R191). -/
theorem sameEffect_runAsm {s s' : State} (F : Format) (cw : CommandWord) (rd : Reg) {rs1 rs2 rs3 : Reg}
    (h1 : s.reg rs1 = s'.reg rs1) (h2 : s.reg rs2 = s'.reg rs2) (h3 : s.reg rs3 = s'.reg rs3) :
    SameEffect [rd] s s' (runAsm F cw rd rs1 rs2 rs3 s) (runAsm F cw rd rs1 rs2 rs3 s') := by
  simp only [runAsm, readU64, readS64, readBit0, h1, h2, h3]
  split
  · exact sameEffect_takeFault ..
  · exact sameEffect_takeFault ..
  · exact sameEffect_complete1 ..

/-- EL's answer depends on its three operands alone (R150). -/
theorem elAnswer_congr {s s' : State} (F : Format) {rs1 rs2 rs3 : Reg} (h1 : s.reg rs1 = s'.reg rs1)
    (h2 : s.reg rs2 = s'.reg rs2) (h3 : s.reg rs3 = s'.reg rs3) :
    elAnswer F rs1 rs2 rs3 s = elAnswer F rs1 rs2 rs3 s' := by
  simp only [elAnswer, readU64, readS64, readBit0, h1, h2, h3]

/-- Every command has one effect on two states that agree on its sources. -/
theorem sameEffect_exec {i : Instr} {s s' : State} (agree : ∀ r ∈ i.sources, s.reg r = s'.reg r) :
    SameEffect i.dests s s' (exec i s) (exec i s') := by
  cases i <;> simp only [Instr.sources, List.forall_mem_cons, List.not_mem_nil, false_implies, implies_true,
    and_true] at agree
  case mul128 rd rd2 rs1 rs2 =>
    obtain ⟨h1, h2⟩ := agree
    simp only [exec, execMul128, readU64, h1, h2]
    exact .checkDests _ rd rd2 (sameEffect_complete2 ..)
  case lzc64 rd rs1 =>
    simp only [exec, execLzc64, readU64, agree]
    exact sameEffect_complete1 ..
  case dec8 rd rs1 =>
    simp only [exec, execDec8, readWindow, agree]
    exact .ite _ (sameEffect_complete1 ..) (sameEffect_takeFault ..)
  case isdig8 rd rs1 =>
    simp only [exec, execIsdig8, readWindow, agree]
    exact sameEffect_complete1 ..
  case isdigit rd rd2 rs1 =>
    simp only [exec, execIsdigit, readLow16, agree]
    exact .checkDests _ rd rd2 (sameEffect_complete2 ..)
  case isspace rd rs1 =>
    simp only [exec, execIsspace, readLow16, agree]
    exact sameEffect_complete1 ..
  case p5w rd rs1 =>
    simp only [exec, execP5w, readU64, agree]
    exact .ite _ (sameEffect_takeFault ..) (sameEffect_complete1 ..)
  case p5q rd rd2 rs1 =>
    simp only [exec, execP5q, readS64, agree]
    exact .checkDests _ rd rd2 (.ite _ (sameEffect_complete2 ..) (sameEffect_takeFault ..))
  case bexp rd rs1 =>
    simp only [exec, execBexp, readS64, agree]
    exact .ite _ (sameEffect_complete1 ..) (sameEffect_takeFault ..)
  case el64 rd rd2 rs1 rs2 rs3 =>
    obtain ⟨h1, h2, h3⟩ := agree
    simp only [exec, execEl64, elAnswer_congr binary64 h1 h2 h3]
    exact .checkDests _ rd rd2 (sameEffect_complete2 ..)
  case el32 rd rd2 rs1 rs2 rs3 =>
    obtain ⟨h1, h2, h3⟩ := agree
    simp only [exec, execEl32, elAnswer_congr binary32 h1 h2 h3]
    exact .checkDests _ rd rd2 (sameEffect_complete2 ..)
  case asm64 rd rs1 rs2 rs3 =>
    obtain ⟨h1, h2, h3⟩ := agree
    exact sameEffect_runAsm binary64 _ rd h1 h2 h3
  case asm32 rd rs1 rs2 rs3 =>
    obtain ⟨h1, h2, h3⟩ := agree
    exact sameEffect_runAsm binary32 _ rd h1 h2 h3

/-- Settles O48: one effect, applied to both states, completes in both with the same results or faults alike in both. -/
theorem commandsDependOnlyOnTheirSources : Obligations.CommandsDependOnlyOnTheirSources := by
  intro i s s' t t' agree run run'
  obtain ⟨e, writes, eq, eq'⟩ := sameEffect_exec agree
  obtain rfl := Host.Outcome.next.inj (run.symm.trans eq)
  obtain rfl := Host.Outcome.next.inj (run'.symm.trans eq')
  cases e with
  | complete ws =>
    have counts (u : State) : (setRegs ws u).advance.pc = u.pc + 1 := by simp [setRegs_pc_mode]
    refine ⟨iff_of_true (counts s) (counts s'), fun _ r hr => ?_, fun h => absurd (counts s) h⟩
    exact reg_setRegs_congr (.inr (writes ▸ hr))
  | fault cw cause info => simp [Effect.apply]

/-! ### The host's operations and the step (R30, R31) -/

@[simp] theorem step_pending (s : State) (op : HostOp) : step (s.pending op) = perform op s := rfl

/-- A word that decodes, issued in RUN, is executed. -/
theorem issue_of_issues {s : State} {cw : CommandWord} {i : Instr} (h : Issues s cw i) : issue cw s = exec i s := by
  obtain ⟨run, decodes⟩ := h
  simp [issue, runWord, run, decodes]

/-- What the decoder's table reads is what the command word of those bits decodes to. -/
theorem decode_of_decodeTableWord {nbits w : Nat} {i : Instr} (h : decodeTableWord nbits w = some i) :
    decode (BitVec.ofNat 32 (w % 2 ^ nbits)) = .ok i := by
  unfold decodeTableWord at h
  split at h
  · cases d : decode (BitVec.ofNat 32 (w % 2 ^ nbits)) with
    | ok j => simpa [d] using h
    | error e => simp [d] at h
  · simp at h

/-- Settles O3: each operation's next state, read off with the rules of `setReg`. -/
theorem hostReadsAndWritesInEitherMode : Obligations.HostReadsAndWritesInEitherMode := by
  refine ⟨fun s i v => ?_, fun _ _ => rfl, fun _ => rfl⟩
  exact ⟨s.setReg i v, rfl, s.reg_setReg_self i v, fun _ ne => s.reg_setReg_ne v ne, rfl, by simp [SameBesidesRegs]⟩

/-- Settles O5: the step performs the `Issue`, and in RUN that executes what the word decodes to. -/
theorem stepRunsTheDecodedCommand : Obligations.StepRunsTheDecodedCommand :=
  ⟨fun s cw _ issues => (step_pending s (.issue cw)).trans (issue_of_issues issues),
    fun s _ _ run reads => (step_pending s _).trans (issue_of_issues ⟨run, decode_of_decodeTableWord reads⟩)⟩

/-! ### The count of completed commands (R22) -/

/-- A command counts and keeps the mode, or it faults and does not count. -/
theorem exec_pc_mode {i : Instr} {s t : State} (h : exec i s = .next t) :
    (t.pc = s.pc + 1 ∧ t.mode = s.mode) ∨ (t.pc = s.pc ∧ t.mode = .faulted) := by
  obtain ⟨e, -, eq, -⟩ := sameEffect_exec (i := i) (s := s) (s' := s) fun _ _ => rfl
  obtain rfl := Host.Outcome.next.inj (h.symm.trans eq)
  cases e with
  | complete writes => exact .inl (by simp [Effect.apply, setRegs_pc_mode])
  | fault cw cause info => exact .inr ⟨rfl, rfl⟩

/-- `Issue` counts exactly a command that leaves the block in RUN. -/
theorem issue_pc_mode {cw : CommandWord} {s t : State} (h : issue cw s = .next t) :
    (t.pc = s.pc + 1 ∧ t.mode = .run ∧ ∃ i, Issues s cw i) ∨ (t.pc = s.pc ∧ t.mode = .faulted) := by
  obtain ⟨run, eq⟩ | ⟨faulted, eq⟩ := issue_cases cw s
  · obtain ⟨i, decodes, eq'⟩ | ⟨e, -, eq'⟩ := runWord_cases cw s
    · obtain ⟨pc, mode⟩ | fault := exec_pc_mode (eq'.symm.trans (eq.symm.trans h))
      · exact .inl ⟨pc, mode.trans run, i, run, decodes⟩
      · exact .inr fault
    · obtain rfl := Host.Outcome.next.inj (h.symm.trans (eq.trans eq'))
      exact .inr ⟨rfl, rfl⟩
  · obtain rfl := Host.Outcome.next.inj (h.symm.trans eq)
    exact .inr ⟨rfl, faulted⟩

/-- Settles O9: waiting and the host's reads and writes keep `pc`, `Reset()` clears it, `Issue` counts a completion. -/
theorem pcCountsCompletedCommands : Obligations.PcCountsCompletedCommands := by
  intro s t h
  obtain ⟨empty, eq⟩ | ⟨op, rest, inbox, eq⟩ := performNext_cases s
  · obtain rfl := Host.Outcome.next.inj (h.symm.trans eq)
    exact .inl ⟨rfl, by simp [empty], by simp [empty]⟩
  · rw [step, eq] at h
    cases op with
    | write i v => cases h; exact .inl ⟨rfl, by simp [inbox], by simp [inbox]⟩
    | read i => cases h; exact .inl ⟨rfl, by simp [inbox], by simp [inbox]⟩
    | readStatus => cases h; exact .inl ⟨rfl, by simp [inbox], by simp [inbox]⟩
    | reset => cases h; exact .inr (.inl ⟨⟨rest, inbox⟩, rfl⟩)
    | issue cw =>
      obtain ⟨pc, mode, i, issues⟩ | ⟨pc, mode⟩ := issue_pc_mode h
      · exact .inr (.inr ⟨pc, mode, cw, rest, i, inbox, issues⟩)
      · exact .inl ⟨pc, by simp [inbox], by simp [mode]⟩

/-! ### The status registers (R24 to R27, R33) -/

@[simp] theorem statusFlt_faultStatus (c : Cause) : statusFlt (faultStatus c) = 1 := by cases c <;> rfl
@[simp] theorem statusReservedZero_faultStatus (c : Cause) : statusReservedZero (faultStatus c) = true := by
  cases c <;> rfl
@[simp] theorem statusCause_faultStatus (c : Cause) : statusCause (faultStatus c) = causeCode c := by cases c <;> rfl

/-- The codes of R211 end at 5. -/
theorem causeCode_le (c : Cause) : (causeCode c).toNat ≤ 5 := by cases c <;> decide

/-- Settles O45: the two modes of a truthful state, with the fields of `ST` at 0 and after a fault. -/
theorem statusFieldsShowTheMode : Obligations.StatusFieldsShowTheMode := by
  rintro s (⟨mode, st, fcw, finfo⟩ | ⟨mode, c, st, -⟩)
  · rw [mode, st, fcw, finfo]
    decide
  · rw [mode, st]
    simp [causeCode_le]

/-- Settles O2: the fields of `State.reset`, one by one. -/
theorem resetStateHasCleanStatus : Obligations.ResetStateHasCleanStatus := ⟨rfl, rfl, rfl, rfl, rfl⟩

/-- Settles O46: the reset state is in RUN with its status registers at 0. -/
theorem statusIsTruthfulAfterReset : Obligations.StatusIsTruthfulAfterReset := by
  obtain ⟨st, fcw, finfo, mode, -⟩ := resetStateHasCleanStatus
  exact .inl ⟨mode, st, fcw, finfo⟩

/-! ### Several instances (R34, R222) -/

/-- The state at the index steps and is put back in its place, or the index is beyond the list. -/
theorem stepInstance_cases {k : Nat} {l l' : List State} (h : stepInstance k l = .next l') :
    (l[k]? = none ∧ l' = l) ∨ ∃ s t, l[k]? = some s ∧ step s = .next t ∧ l' = l.set k t := by
  unfold stepInstance at h
  cases found : l[k]? with
  | none => exact .inl ⟨rfl, by simpa [found] using h.symm⟩
  | some s =>
    cases stepped : step s with
    | next t => exact .inr ⟨s, t, rfl, stepped, by simpa [found, stepped] using h.symm⟩
    | fault r => simp [found, stepped] at h
    | refused r => simp [found, stepped] at h

/-- Settles O50: replacing one entry of the list leaves every other entry. -/
theorem instancesDoNotInteract : Obligations.InstancesDoNotInteract := by
  intro k l l' h
  obtain ⟨none, rfl⟩ | ⟨s, t, found, stepped, rfl⟩ := stepInstance_cases h
  · exact ⟨fun _ _ => rfl, fun s some => by simp [none] at some⟩
  · refine ⟨fun j ne => List.getElem?_set_ne ne.symm, fun s' found' => ?_⟩
    obtain rfl : s' = s := by simpa [found] using found'.symm
    obtain ⟨inRange, -⟩ := List.getElem?_eq_some_iff.1 found
    exact ⟨t, stepped, List.getElem?_set_self inRange⟩

end Sys2Proof.StateRules

/-! PROOFS. The power-of-five ROM holds what spec/20_memory.md R41 to R44 say. The parts: the shift that puts a leading one
at bit 127; the rows for q ≥ 0; the reciprocals for q < 0; the words as halves of the rows. -/

namespace Sys2Proof.RomTable

open Sys2Proof.Machine Sys2Proof.SmallPowers

/-! ### Normalising to 128 bits -/

theorem normalise128_of_log2_le {t : Nat} (h : t.log2 ≤ 127) : normalise128 t = t * 2 ^ (127 - t.log2) := by
  rw [normalise128]
  split
  · exact Nat.shiftLeft_eq ..
  · have eq : t.log2 = 127 := by omega
    simp [eq]

theorem normalise128_of_le_log2 {t : Nat} (h : 127 ≤ t.log2) : normalise128 t = t / 2 ^ (t.log2 - 127) := by
  rw [normalise128, if_neg (by omega), Nat.shiftRight_eq_div_pow]

/-- Dropping the bits of `v` that lie more than `k` below its leading one. -/
theorem leadingOne_unshift_bounds {v k : Nat} (hv : v ≠ 0) (h : k ≤ v.log2) :
    2 ^ k ≤ v / 2 ^ (v.log2 - k) ∧ v / 2 ^ (v.log2 - k) < 2 ^ (k + 1) := by
  constructor
  · rw [Nat.le_div_iff_mul_le (by positivity), ← pow_add, Nat.add_sub_cancel' h]
    exact Nat.log2_self_le hv
  · rw [Nat.div_lt_iff_lt_mul (by positivity), ← pow_add, show k + 1 + (v.log2 - k) = v.log2 + 1 by omega]
    exact Nat.lt_log2_self

theorem normalise128_bounds {t : Nat} (ht : t ≠ 0) : 2 ^ 127 ≤ normalise128 t ∧ normalise128 t < 2 ^ 128 := by
  rcases Nat.le_total t.log2 127 with le | ge
  · rw [normalise128_of_log2_le le]
    exact leadingOne_shift_bounds ht le
  · rw [normalise128_of_le_log2 ge]
    exact leadingOne_unshift_bounds ht ge

/-! ### The rows for q ≥ 0 (R42) -/

theorem powerOfFive_natCast (n : Nat) : powerOfFive (n : Int) = normalise128 (5 ^ n) := by
  rw [powerOfFive, if_pos (Int.natCast_nonneg n), Int.toNat_natCast, powerUp]

/-- `5^27` fits in a word, so the rows up to it shift left by at least a whole word. -/
theorem normalise128_five_pow_low {n : Nat} (hn : n ≤ 27) : normalise128 (5 ^ n) % 2 ^ 64 = 0 := by
  have short : (5 ^ n).log2 < 64 := log2_five_pow_lt hn (by norm_num)
  rw [normalise128_of_log2_le (by omega)]
  have whole : 2 ^ 64 ∣ 2 ^ (127 - (5 ^ n).log2) := Nat.pow_dvd_pow 2 (by omega)
  exact Nat.mod_eq_zero_of_dvd (whole.mul_left _)

/-- Settles O25: the exponent is the place of the leading one of `5^n`. -/
theorem romHoldsNormalisedPowers : Obligations.RomHoldsNormalisedPowers := by
  intro n
  rw [powerOfFive_natCast]
  refine ⟨⟨(5 ^ n).log2, Nat.log2_self_le (by positivity), Nat.lt_log2_self, normalise128_of_log2_le, fun h => ?_⟩,
    normalise128_five_pow_low⟩
  exact normalise128_of_le_log2 (Nat.le_of_lt h)

/-! ### The reciprocals for q < 0 (R43) -/

/-- `ceilLog2 p` is one more than the leading place of `p - 1`. -/
theorem two_pow_ceilLog2_bounds {p : Nat} (hp : 2 ≤ p) : 2 ^ (ceilLog2 p - 1) < p ∧ p ≤ 2 ^ ceilLog2 p := by
  have low : 2 ^ (p - 1).log2 ≤ p - 1 := Nat.log2_self_le (by omega)
  have high : p - 1 < 2 ^ ((p - 1).log2 + 1) := Nat.lt_log2_self
  rw [ceilLog2, Nat.add_sub_cancel]
  omega

theorem ceilLog2_least {p y : Nat} (hp : 2 ≤ p) (hy : y < ceilLog2 p) : 2 ^ y < p :=
  (Nat.pow_le_pow_right two_pos (by omega)).trans_lt (two_pow_ceilLog2_bounds hp).1

theorem five_pow_ge_two {n : Nat} (hn : 1 ≤ n) : 2 ≤ 5 ^ n :=
  (show 2 ≤ 5 ^ 1 by norm_num).trans (Nat.pow_le_pow_right (by norm_num) hn)

theorem powerOfFive_neg {n : Nat} (hn : 1 ≤ n) : powerOfFive (-(n : Int)) = powerDown n := by
  rw [powerOfFive, if_neg (by omega), neg_neg, Int.toNat_natCast]

/-- The quotient of the long rows, before it is halved. -/
def longReciprocal (p : Nat) : Nat := 2 ^ (2 * ceilLog2 p + 128) / p + 1

theorem powerDown_short {n : Nat} (hn : n ≤ 27) : powerDown n = 2 ^ (ceilLog2 (5 ^ n) + 127) / 5 ^ n + 1 := if_pos hn

theorem powerDown_long {n : Nat} (hn : 27 < n) : powerDown n = normalise128 (longReciprocal (5 ^ n)) :=
  if_neg (by omega)

/-- A quotient `2^(z+m) / p` with `p ≤ 2^z` has at least the bits of `2^m`. -/
theorem two_pow_le_div {p z m : Nat} (hp : 0 < p) (hz : p ≤ 2 ^ z) : 2 ^ m ≤ 2 ^ (z + m) / p := by
  rw [Nat.le_div_iff_mul_le hp, Nat.add_comm, pow_add]
  exact Nat.mul_le_mul_left _ hz

/-- The long quotient is at least 128 bits wide, so normalising it only halves. -/
theorem le_log2_longReciprocal {p : Nat} (hp : 2 ≤ p) : 127 ≤ (longReciprocal p).log2 := by
  have wide : 2 ^ (ceilLog2 p + 128) ≤ 2 ^ (ceilLog2 p + (ceilLog2 p + 128)) / p :=
    two_pow_le_div (by omega) (two_pow_ceilLog2_bounds hp).2
  have bits : 2 ^ 127 ≤ 2 ^ (ceilLog2 p + 128) := Nat.pow_le_pow_right two_pos (by omega)
  rw [Nat.le_log2 (by simp [longReciprocal]), longReciprocal, two_mul, Nat.add_assoc]
  omega

/-- The short quotient, rounded up, has exactly 128 bits. It would reach `2^128` only if `p` were within `p / 2^128` of
`2^(z-1)`, and `p` is a whole number above that. -/
theorem shortReciprocal_bounds {p : Nat} (hp : 2 ≤ p) (small : p < 2 ^ 128) :
    2 ^ 127 ≤ 2 ^ (ceilLog2 p + 127) / p + 1 ∧ 2 ^ (ceilLog2 p + 127) / p + 1 < 2 ^ 128 := by
  obtain ⟨above, below⟩ := two_pow_ceilLog2_bounds hp
  refine ⟨(two_pow_le_div (by omega) below).trans (Nat.le_succ _), ?_⟩
  have positive : 1 ≤ ceilLog2 p := Nat.succ_pos _
  have numerator : 2 ^ (ceilLog2 p + 127) = 2 ^ (ceilLog2 p - 1) * 2 ^ 128 := by
    rw [← pow_add, show ceilLog2 p - 1 + 128 = ceilLog2 p + 127 by omega]
  have quotient : 2 ^ (ceilLog2 p + 127) / p < 2 ^ 128 - 1 := by
    rw [Nat.div_lt_iff_lt_mul (by omega), numerator]
    omega
  omega

theorem powerDown_bounds {n : Nat} (hn : 1 ≤ n) : 2 ^ 127 ≤ powerDown n ∧ powerDown n < 2 ^ 128 := by
  rcases Nat.lt_or_ge 27 n with long | short
  · rw [powerDown_long long]
    exact normalise128_bounds (Nat.succ_ne_zero _)
  · rw [powerDown_short short]
    exact shortReciprocal_bounds (five_pow_ge_two hn)
      ((Nat.pow_le_pow_right (by norm_num) short).trans_lt (by norm_num))

/-- Settles O26: the least exponent is `ceilLog2`, and the halvings bring the leading one down to bit 127. -/
theorem romHoldsNormalisedReciprocals : Obligations.RomHoldsNormalisedReciprocals := by
  intro n hn
  have two_le := five_pow_ge_two hn
  rw [powerOfFive_neg hn]
  refine ⟨⟨ceilLog2 (5 ^ n), (two_pow_ceilLog2_bounds two_le).2, fun y => ceilLog2_least two_le, powerDown_short,
    fun long => ⟨(longReciprocal (5 ^ n)).log2 - 127, ?_⟩⟩, powerDown_bounds hn⟩
  rw [powerDown_long long, normalise128_of_le_log2 (le_log2_longReciprocal two_le), longReciprocal]

/-! ### The words (R41, R44) -/

/-- Every row has its leading one at bit 127, whatever the exponent. -/
theorem powerOfFive_bounds (q : Int) : 2 ^ 127 ≤ powerOfFive q ∧ powerOfFive q < 2 ^ 128 := by
  rw [powerOfFive]
  split
  · exact normalise128_bounds (by positivity)
  · exact powerDown_bounds (by omega)

theorem romWord_even (k : Nat) : romWord (2 * k) = powerOfFive ((k : Int) - 342) / 2 ^ 64 := by
  rw [romWord, if_pos (by omega), Nat.mul_div_cancel_left k two_pos, qMin, ← sub_eq_add_neg]

theorem romWord_odd (k : Nat) : romWord (2 * k + 1) = powerOfFive ((k : Int) - 342) % 2 ^ 64 := by
  rw [romWord, if_neg (by omega), show (2 * k + 1) / 2 = k by omega, qMin, ← sub_eq_add_neg]

/-- Settles O27: the words are the halves of a row, whose leading one is bit 127. -/
theorem romHighWordsHaveTheTopBit : Obligations.RomHighWordsHaveTheTopBit := by
  intro k _
  obtain ⟨low, high⟩ := powerOfFive_bounds ((k : Int) - 342)
  rw [romWord_even, romWord_odd]
  omega

end Sys2Proof.RomTable

/-! PROOFS. The decoder and the encoder are inverse to each other and follow the opcode map of spec/30_encoding.md. The
parts: the register fields as bits of a word; the command that a word's fields make, and when the word is its encoding;
decoding as the inverse of encoding; the rows of the map; words that are no command. -/

namespace Sys2Proof.OpcodeMap

open Sys2Proof.Machine Sys2Proof.Claims

/-! ### Register fields as bits of a word (R61) -/

/-- A register index moved to the field whose lowest bit is `lo`. -/
def regBits (lo : Nat) (r : Reg) : CommandWord := (BitVec.ofFin r : BitVec 4).setWidth 32 <<< lo

/-- The bits of the field whose lowest bit is `lo`. -/
def fieldMask (lo : Nat) : CommandWord := (0xF#4).setWidth 32 <<< lo

@[simp] theorem regBits_zero (lo : Nat) : regBits lo 0 = 0#32 := BitVec.zero_shiftLeft lo

/-- Reading a field and moving it back keeps the field's bits of the word. -/
@[simp] theorem regBits_fieldReg (lo : Nat) (cw : CommandWord) : regBits lo (fieldReg lo cw) = cw &&& fieldMask lo := by
  apply BitVec.eq_of_getLsbD_eq
  intro k hk
  have ones : (0xF#4).getLsbD (k - lo) = decide (k - lo < 4) := BitVec.getLsbD_allOnes
  by_cases h : k < lo
  · simp [regBits, fieldMask, h]
  · simp only [regBits, fieldMask, fieldReg, BitVec.ofFin_toFin, BitVec.getLsbD_and, BitVec.getLsbD_shiftLeft,
      BitVec.getLsbD_setWidth, BitVec.getLsbD_extractLsb', ones, Nat.add_sub_cancel' (Nat.le_of_not_lt h)]
    grind

/-- A packed word is its opcode and its fields, each in its place. -/
theorem packWord_eq_or (opc : BitVec 8) (rd rd2 rs1 rs2 rs3 : Reg) :
    packWord opc rd rd2 rs1 rs2 rs3 =
      opc.setWidth 32 <<< 24 |||
        (regBits 20 rd ||| regBits 16 rd2 ||| regBits 12 rs1 ||| regBits 8 rs2 ||| regBits 4 rs3) := by
  apply BitVec.eq_of_getLsbD_eq
  intro k hk
  change BitVec.getLsbD (w := 8 + 4 + 4 + 4 + 4 + 4 + 4) _ k = _
  rw [packWord]
  simp only [regBits, BitVec.getLsbD_append, BitVec.getLsbD_or, BitVec.getLsbD_shiftLeft,
    BitVec.getLsbD_setWidth, BitVec.getLsbD_zero]
  grind

/-! ### The command that a word's fields make (R61, R62) -/

/-- The command of a mnemonic whose operands are the fields of a word. -/
def instrOfWord (m : Mnemonic) (cw : CommandWord) : Instr :=
  instrOfFields m (fieldRd cw) (fieldRd2 cw) (fieldRs1 cw) (fieldRs2 cw) (fieldRs3 cw)

@[simp] theorem mnemonic_instrOfWord (m : Mnemonic) (cw : CommandWord) : (instrOfWord m cw).mnemonic = m := by
  cases m <;> rfl

/-- Only a form with a second destination can be ill-formed, and it is when both name one register (R67). -/
theorem wellFormed_instrOfWord_iff (m : Mnemonic) (cw : CommandWord) :
    (instrOfWord m cw).wellFormed = true ↔ ¬(formHasRd2 (formOf m) = true ∧ fieldRd cw = fieldRd2 cw) := by
  cases m <;> simp [instrOfWord, instrOfFields, Instr.wellFormed, formHasRd2, formOf]

/-- Every operand is read back from its field. -/
@[simp] theorem instrOfWord_encode (i : Instr) : instrOfWord i.mnemonic (encode i) = i := by
  cases i <;> simp [instrOfWord, instrOfFields, Instr.mnemonic, encode]

@[simp] theorem mnemonicOfOpcode_encode (i : Instr) : mnemonicOfOpcode (fieldOpc (encode i)) = some i.mnemonic := by
  have opc : fieldOpc (encode i) = opcodeOf i.mnemonic := by cases i <;> exact fieldOpc_packWord ..
  rw [opc, mnemonicOfOpcode_opcodeOf]

/-- No two commands share a word. -/
theorem encode_injective : Function.Injective encode := by
  intro i j same
  have mnemonic : some i.mnemonic = some j.mnemonic := by
    rw [← mnemonicOfOpcode_encode, same, mnemonicOfOpcode_encode]
  rw [← instrOfWord_encode i, same, Option.some.inj mnemonic, instrOfWord_encode]

/-! ### When a word is the encoding of its fields (R62, R65) -/

/-- Encoding what a word's fields make replaces the fixed bits of the row by its `match` and keeps all others. -/
theorem encode_instrOfWord (m : Mnemonic) (cw : CommandWord) :
    encode (instrOfWord m cw) = matchOf m ||| (cw &&& ~~~ formMask (formOf m)) := by
  cases m <;>
    simp only [instrOfWord, instrOfFields, encode, packWord_eq_or, fieldRd, fieldRd2, fieldRs1, fieldRs2, fieldRs3,
      regBits_fieldReg, regBits_zero, BitVec.or_zero, ← BitVec.and_or_distrib_left] <;>
    rfl

theorem matchOf_and_formMask (m : Mnemonic) : matchOf m &&& formMask (formOf m) = matchOf m := by
  cases m <;> rfl

/-- Bits put under a mask that they fit give the word exactly when the word has them there. -/
theorem or_and_not_eq_iff {w : Nat} {x mask bits : BitVec w} (fits : bits &&& mask = bits) :
    bits ||| (x &&& ~~~ mask) = x ↔ x &&& mask = bits := by
  constructor <;> intro h
  · rw [← h, BitVec.and_or_distrib_right, BitVec.and_assoc]
    simp [fits]
  · rw [← h, ← BitVec.and_or_distrib_left]
    simp

/-- A word is the encoding of its fields exactly when it fits the row of the opcode map. -/
theorem encode_instrOfWord_eq_iff (m : Mnemonic) (cw : CommandWord) :
    encode (instrOfWord m cw) = cw ↔ cw &&& formMask (formOf m) = matchOf m := by
  rw [encode_instrOfWord]
  exact or_and_not_eq_iff (matchOf_and_formMask m)

/-! ### Decoding is the inverse of encoding (R66, R67) -/

/-- The three checks of R66, and what a word that passes them decodes to. -/
theorem decode_eq_ok_iff_checks (cw : CommandWord) (i : Instr) :
    decode cw = .ok i ↔ ∃ m, mnemonicOfOpcode (fieldOpc cw) = some m ∧ cw &&& formMask (formOf m) = matchOf m ∧
      ¬(formHasRd2 (formOf m) = true ∧ fieldRd cw = fieldRd2 cw) ∧ instrOfWord m cw = i := by
  unfold decode
  cases mnemonicOfOpcode (fieldOpc cw) with
  | none => simp
  | some m =>
    by_cases fits : cw &&& formMask (formOf m) = matchOf m
    · by_cases equal : formHasRd2 (formOf m) = true ∧ fieldRd cw = fieldRd2 cw
      · simp [fits, equal]
      · simp [fits, equal, instrOfWord, -not_and]
    · simp [fits]

/-- A word decodes to a command exactly when it is the word of that command and the command is well formed. -/
theorem decode_eq_ok_iff (cw : CommandWord) (i : Instr) :
    decode cw = .ok i ↔ encode i = cw ∧ i.wellFormed = true := by
  rw [decode_eq_ok_iff_checks]
  constructor
  · rintro ⟨m, -, fits, distinct, rfl⟩
    exact ⟨(encode_instrOfWord_eq_iff m cw).2 fits, (wellFormed_instrOfWord_iff m cw).2 distinct⟩
  · rintro ⟨rfl, wf⟩
    rw [← instrOfWord_encode i] at wf
    exact ⟨i.mnemonic, mnemonicOfOpcode_encode i, (encode_instrOfWord_eq_iff _ _).1 (by rw [instrOfWord_encode]),
      (wellFormed_instrOfWord_iff _ _).1 wf, instrOfWord_encode i⟩

/-- Settles O12: the word of a well-formed command passes the three checks, and its fields are the operands. -/
theorem decodeAfterEncode : Obligations.DecodeAfterEncode := fun i wf => (decode_eq_ok_iff _ i).2 ⟨rfl, wf⟩

/-- Settles O13: a word that passes the three checks has no bit outside the fields that its command keeps. -/
theorem encodeAfterDecode : Obligations.EncodeAfterDecode := fun cw i => (decode_eq_ok_iff cw i).1

/-! ### The rows of the opcode map (R65) -/

/-- The rows of R65 as printed are the decoder's masks and matches. -/
theorem opcodeRow_eq (m : Mnemonic) : opcodeRow m = (matchOf m, formMask (formOf m), formHasRd2 (formOf m)) := by
  cases m <;> rfl

theorem fieldRd_eq_fieldRd2_iff (cw : CommandWord) :
    fieldRd cw = fieldRd2 cw ↔ cw.toNat / 2 ^ 20 % 16 = cw.toNat / 2 ^ 16 % 16 := by
  rw [Fin.ext_iff, fieldRd, fieldRd2, fieldReg_val, fieldReg_val]

/-- Settles O11: fitting the row makes the word an encoding, and its destinations decide whether it is well formed. -/
theorem decodingFollowsTheOpcodeMap : Obligations.DecodingFollowsTheOpcodeMap := by
  intro cw m
  rw [opcodeRow_eq, ← encode_instrOfWord_eq_iff, ne_eq, ← fieldRd_eq_fieldRd2_iff, ← not_and,
    ← wellFormed_instrOfWord_iff, ← decode_eq_ok_iff]
  constructor
  · rintro ⟨i, decodes, rfl⟩
    obtain ⟨rfl, -⟩ := (decode_eq_ok_iff cw i).1 decodes
    rwa [instrOfWord_encode]
  · exact fun decodes => ⟨_, decodes, mnemonic_instrOfWord m cw⟩

/-- Settles O14: each word of R72 put through the three checks. -/
theorem listedWordsDecode : Obligations.ListedWordsDecode :=
  ⟨rfl, rfl, rfl, rfl, rfl, rfl, rfl, rfl, rfl, rfl, rfl, rfl, rfl, rfl, rfl, rfl, rfl⟩

/-! ### Words that are no command (R67, R68) -/

/-- A word that decodes to nothing, issued in RUN, takes ILLEGAL_COMMAND. -/
theorem issue_illegalCommand {s : State} {cw : CommandWord} (run : s.mode = .run) (illegal : ∀ i, decode cw ≠ .ok i) :
    ∃ t, step (s.pending (.issue cw)) = .next t ∧ FaultTaken cw .illegalCommand 0 s t := by
  obtain ⟨-, issued⟩ | ⟨faulted, -⟩ := issue_cases cw s
  · obtain ⟨i, decodes, -⟩ | ⟨e, -, faults⟩ := runWord_cases cw s
    · exact absurd decodes (illegal i)
    · exact ⟨_, issued.trans faults, raised_faultTaken ..⟩
  · simp [run] at faulted

/-- Settles O6: a word that decodes would fit its command's row with two destinations that differ. -/
theorem otherWordsAreIllegalCommands : Obligations.OtherWordsAreIllegalCommands := by
  intro s cw run outside
  refine issue_illegalCommand run fun i decodes => ?_
  obtain ⟨fits, distinct⟩ := (decodingFollowsTheOpcodeMap cw i.mnemonic).1 ⟨i, decodes, rfl⟩
  obtain ⟨twoDests, equal⟩ := outside i.mnemonic fits
  exact distinct twoDests equal

/-- The word of an ill-formed command decodes to nothing. -/
theorem decode_encode_ne_ok {i : Instr} (illFormed : i.wellFormed = false) (j : Instr) : decode (encode i) ≠ .ok j := by
  intro decodes
  obtain ⟨same, wf⟩ := (decode_eq_ok_iff _ j).1 decodes
  rw [encode_injective same, illFormed] at wf
  contradiction

/-- An ill-formed command faults before it reads any register. -/
theorem exec_of_illFormed {i : Instr} (illFormed : i.wellFormed = false) (s : State) :
    exec i s = .next (s.raised (encode i) .illegalCommand 0) := by
  cases i <;> simp [Instr.wellFormed] at illFormed <;> exact if_pos illFormed

/-- Settles O7: the five commands are ill-formed when their destinations are equal. -/
theorem equalDestinationsAreIllegal : Obligations.EqualDestinationsAreIllegal := by
  intro s r a b c i twoDests
  have illFormed : i.wellFormed = false := by
    rcases twoDests with rfl | rfl | rfl | rfl | rfl <;> simp [Instr.wellFormed]
  exact ⟨⟨_, exec_of_illFormed illFormed s, raised_faultTaken ..⟩,
    fun run => issue_illegalCommand run (decode_encode_ne_ok illFormed)⟩

end Sys2Proof.OpcodeMap

/-! PROOFS. The written form of a command (spec/30_encoding.md section 5) reads back as the `Issue` of its word. The parts:
names and the characters around them; blanks at the ends; pieces between separators; a command; a line. -/

namespace Sys2Proof.WrittenForm

open Sys2Proof.Machine

/-! ### Names and the characters around them (R70) -/

/-- Characters that stand between names, or that give a line another meaning. -/
def delimiters : List Char := [' ', '\t', ',', '=', '#']

/-- A mnemonic or a register: characters with no delimiter among them. -/
def IsName (cs : List Char) : Prop := cs ≠ [] ∧ ∀ c ∈ cs, c ∉ delimiters

theorem isBlank_eq_false {c : Char} (h : c ∉ delimiters) : isBlank c = false := by
  simp_all [delimiters, isBlank]

theorem regText_isName (r : Reg) : IsName (regText r) := by
  fin_cases r <;> simp [IsName, regText, digitChar, delimiters]

theorem mnemonicText_isName (m : Mnemonic) : IsName (mnemonicText m) := by
  cases m <;> simp [IsName, mnemonicText, delimiters]

@[simp] theorem operandsText_singleton (r : Reg) : operandsText [r] = regText r := rfl

@[simp] theorem operandsText_cons_cons (r r2 : Reg) (rs : List Reg) :
    operandsText (r :: r2 :: rs) = regText r ++ ',' :: ' ' :: operandsText (r2 :: rs) := by
  simp [operandsText]

/-- Between the names of the operands stand commas and spaces. -/
theorem mem_operandsText {c : Char} {rs : List Reg} (h : c ∈ operandsText rs) : c ∉ delimiters ∨ c = ',' ∨ c = ' ' := by
  fun_induction operandsText rs with
  | case1 => contradiction
  | case2 r => exact .inl ((regText_isName r).2 c h)
  | case3 r rs _ ih =>
    simp only [List.mem_append, List.mem_cons, List.not_mem_nil, or_false] at h
    obtain (name | separator) | rest := h
    · exact .inl ((regText_isName r).2 c name)
    · exact .inr separator
    · exact ih rest

/-- Operands end in a name. -/
theorem operandsText_ends (r : Reg) (rs : List Reg) : ∃ front last, operandsText (r :: rs) = front ++ regText last := by
  induction rs generalizing r with
  | nil => exact ⟨[], r, rfl⟩
  | cons r2 rs ih =>
    obtain ⟨front, last, eq⟩ := ih r2
    exact ⟨regText r ++ ',' :: ' ' :: front, last, by simp [eq]⟩

/-! ### Blanks at the ends -/

/-- A text with a name at either end has no blanks to drop. -/
theorem trimBlanks_eq_self {name rest front last : List Char} (starts : IsName name) (ends : IsName last)
    (both : name ++ rest = front ++ last) : trimBlanks (name ++ rest) = name ++ rest := by
  have leading : (name ++ rest).dropWhile isBlank = name ++ rest := by
    obtain ⟨c, cs, rfl⟩ := List.exists_cons_of_ne_nil starts.1
    exact List.dropWhile_cons_of_neg (by simp [isBlank_eq_false (starts.2 c (.head cs))])
  have trailing : (front ++ last).rdropWhile isBlank = front ++ last := by
    rw [List.rdropWhile_eq_self_iff]
    intro _
    rw [List.getLast_append_of_ne_nil _ ends.1]
    simp [isBlank_eq_false (ends.2 _ (List.getLast_mem ends.1))]
  rw [trimBlanks, leading, both]
  exact trailing

theorem trimBlanks_space_regText (r : Reg) : trimBlanks (' ' :: regText r) = regText r := by
  have name : trimBlanks (regText r ++ []) = regText r ++ [] :=
    trimBlanks_eq_self (front := []) (regText_isName r) (regText_isName r) (by simp)
  simpa [trimBlanks, isBlank] using name

/-! ### Pieces between separators -/

theorem splitAtChar_of_not_mem {sep : Char} {cs : List Char} (h : sep ∉ cs) : splitAtChar sep cs = [cs] := by
  induction cs with
  | nil => rfl
  | cons c cs ih =>
    obtain ⟨other, rest⟩ : sep ≠ c ∧ sep ∉ cs := by simpa using h
    simp [splitAtChar, other.symm, ih rest]

theorem splitAtChar_append {sep : Char} {cs : List Char} (h : sep ∉ cs) (rest : List Char) :
    splitAtChar sep (cs ++ sep :: rest) = cs :: splitAtChar sep rest := by
  induction cs with
  | nil => simp [splitAtChar]
  | cons c cs ih =>
    obtain ⟨other, later⟩ : sep ≠ c ∧ sep ∉ cs := by simpa using h
    simp [splitAtChar, other.symm, ih later]

/-! ### A command (R70) -/

theorem readReg_regText (r : Reg) : readReg (regText r) = some r := by
  fin_cases r <;> rfl

/-- The operands after the mnemonic, each with a space before it, are read back in order. -/
theorem readRegs_operandsText (r : Reg) (rs : List Reg) :
    ((splitAtChar ',' (' ' :: operandsText (r :: rs))).map trimBlanks).mapM readReg = some (r :: rs) := by
  have noComma (r : Reg) : ',' ∉ ' ' :: regText r := by
    have := (regText_isName r).2 ','
    simp_all [delimiters]
  induction rs generalizing r with
  | nil => simp [splitAtChar_of_not_mem (noComma r), trimBlanks_space_regText, readReg_regText]
  | cons r2 rs ih =>
    have split := splitAtChar_append (noComma r) (' ' :: operandsText (r2 :: rs))
    rw [List.cons_append] at split
    simp [split, trimBlanks_space_regText, readReg_regText, ih r2]

theorem find_mnemonicText (m : Mnemonic) : (allMnemonics.find? fun n => mnemonicText n == mnemonicText m) = some m := by
  cases m <;> rfl

theorem instrOfOperands_operands (i : Instr) : instrOfOperands i.mnemonic (i.dests ++ i.sources) = some i := by
  cases i <;> rfl

/-- Every command writes a register, so its written form has operands. -/
theorem operands_eq_cons (i : Instr) : ∃ r rs, i.dests ++ i.sources = r :: rs := by
  cases i <;> exact ⟨_, _, rfl⟩

/-- The first blank ends the mnemonic, and what follows is the operands. -/
theorem readCommand_asmText (i : Instr) : readCommand (asmText i) = some i := by
  have noBlank : ∀ c ∈ mnemonicText i.mnemonic, (!isBlank c) = true := fun c hc => by
    simp [isBlank_eq_false ((mnemonicText_isName _).2 c hc)]
  have space : isBlank ' ' = true := rfl
  have name : (asmText i).takeWhile (fun c => !isBlank c) = mnemonicText i.mnemonic := by
    simp [asmText, List.takeWhile_append_of_pos noBlank, space]
  have operands : (asmText i).dropWhile (fun c => !isBlank c) = ' ' :: operandsText (i.dests ++ i.sources) := by
    simp [asmText, List.dropWhile_append_of_pos noBlank, space]
  obtain ⟨r, rs, eq⟩ := operands_eq_cons i
  have read := instrOfOperands_operands i
  rw [eq] at operands read
  simp only [readCommand, name, operands, find_mnemonicText, readRegs_operandsText]
  exact read

/-! ### A line (R70, R71) -/

/-- A command's text holds no comment and no preload. -/
theorem mem_asmText {c : Char} {i : Instr} (h : c ∈ asmText i) : c ≠ '#' ∧ c ≠ '=' := by
  have plain : c ∉ delimiters ∨ c = ',' ∨ c = ' ' := by
    simp only [asmText, List.mem_append, List.mem_singleton] at h
    obtain (name | space) | operands := h
    · exact .inl ((mnemonicText_isName _).2 c name)
    · exact .inr (.inr space)
    · exact mem_operandsText operands
  obtain name | rfl | rfl := plain
  · simp_all [delimiters]
  · decide
  · decide

theorem trimBlanks_asmText (i : Instr) : trimBlanks (asmText i) = asmText i := by
  obtain ⟨r, rs, eq⟩ := operands_eq_cons i
  obtain ⟨front, last, ends⟩ := operandsText_ends r rs
  rw [asmText, List.append_assoc]
  exact trimBlanks_eq_self (front := mnemonicText i.mnemonic ++ [' '] ++ front) (mnemonicText_isName _)
    (regText_isName last) (by simp [eq, ends])

/-- Settles O15: the line is not a comment, an operation of the host or a preload, and its names are read back. -/
theorem writtenFormReadsBack : Obligations.WrittenFormReadsBack := by
  intro i
  have noComment : (asmText i).takeWhile (fun c => c != '#') = asmText i :=
    List.takeWhile_eq_self_iff.2 fun c hc => by simp [(mem_asmText hc).1]
  have noPreload : splitAtChar '=' (asmText i) = [asmText i] :=
    splitAtChar_of_not_mem fun h => (mem_asmText h).2 rfl
  have notHostOp {text : List Char} (noSpace : ' ' ∉ text) : asmText i ≠ text := by
    rintro rfl
    simp [asmText] at noSpace
  simp [readLine, noComment, trimBlanks_asmText, noPreload, readCommand_asmText, notHostOp]

end Sys2Proof.WrittenForm

/-! PROOFS. The bit primitives of spec/40_bit_primitives.md, and the datapaths that may be built for them. The parts: the
multiplier (R100, R101); the leading-zero count (R102); numbers in limbs, of which a window's bytes are one case; the rules
about eight digits (R104 to R108); the SWAR sequences as arithmetic on limbs (R106, R109); the character classes
(section 4). -/

namespace Sys2Proof.BitPrimitives

open Sys2Proof.Machine Sys2Proof.Claims

/-! ### The multiplier (R100, R101) -/

theorem fullMultiply_hi_lt {a b : Nat} (ha : a < 2 ^ 64) (hb : b < 2 ^ 64) : (fullMultiply a b).hi < 2 ^ 64 := by
  have bound : a * b < 2 ^ 64 * 2 ^ 64 := Nat.mul_lt_mul'' ha hb
  exact Nat.div_lt_of_lt_mul bound

theorem ofUnsigned_toNat {n : Nat} (h : n < 2 ^ 64) : (ofUnsigned n).toNat = n := by
  rw [ofUnsigned, BitVec.toNat_ofNat, Nat.mod_eq_of_lt h]

theorem exec_mul128_of_ne {rd rd2 : Reg} (h : rd ≠ rd2) (rs1 rs2 : Reg) (s : State) :
    exec (.mul128 rd rd2 rs1 rs2) s = .next (s.completed2 rd rd2
      (ofUnsigned (fullMultiply (s.reg rs1).toNat (s.reg rs2).toNat).hi)
      (ofUnsigned (fullMultiply (s.reg rs1).toNat (s.reg rs2).toNat).lo)) := checkDests_of_ne h ..

/-- Settles O16: both halves of the product fit in a register. -/
theorem mul128GivesTheExactProduct : Obligations.Mul128GivesTheExactProduct := by
  intro s rd rd2 rs1 rs2 hne
  obtain ⟨high, low, frame⟩ := completed2_frame s
    (ofUnsigned (fullMultiply (s.reg rs1).toNat (s.reg rs2).toNat).hi)
    (ofUnsigned (fullMultiply (s.reg rs1).toNat (s.reg rs2).toNat).lo) hne
  refine ⟨_, exec_mul128_of_ne hne .., frame, ?_⟩
  rw [high, low, ofUnsigned_toNat (fullMultiply_hi_lt (s.reg rs1).isLt (s.reg rs2).isLt),
    ofUnsigned_toNat (fullMultiply_lo_lt ..), fullMultiply_eq]

/-- A product from the four products of the operands' 32-bit halves. -/
theorem mul_eq_halves (a b : Nat) :
    a * b = a / 2 ^ 32 * (b / 2 ^ 32) * 2 ^ 64 +
      (a % 2 ^ 32 * (b / 2 ^ 32) + a / 2 ^ 32 * (b % 2 ^ 32)) * 2 ^ 32 + a % 2 ^ 32 * (b % 2 ^ 32) := by
  calc a * b = (2 ^ 32 * (a / 2 ^ 32) + a % 2 ^ 32) * (2 ^ 32 * (b / 2 ^ 32) + b % 2 ^ 32) := by
        rw [Nat.div_add_mod, Nat.div_add_mod]
    _ = _ := by ring

/-- The middle column of the decomposition carries into the high half what the low half does not hold. -/
theorem decomposedMultiply_eq (a b : Nat) :
    (decomposedMultiply a b).hi * 2 ^ 64 + (decomposedMultiply a b).lo = a * b := by
  simp only [decomposedMultiply, Nat.shiftRight_eq_div_pow, Nat.shiftLeft_eq, mul_eq_halves a b]
  omega

theorem decomposedMultiply_lo_lt (a b : Nat) : (decomposedMultiply a b).lo < 2 ^ 64 := by
  simp only [decomposedMultiply, Nat.shiftLeft_eq]
  omega

/-- Settles O22: the native multiplier is the rule, and the decomposed one adds the same four partial products. -/
theorem eitherMultiplierIsExact : Obligations.EitherMultiplierIsExact := by
  intro impl a b _ _
  cases impl with
  | native => exact ⟨fullMultiply_eq a b, fullMultiply_lo_lt a b⟩
  | decomposed => exact ⟨decomposedMultiply_eq a b, decomposedMultiply_lo_lt a b⟩

/-! ### The leading-zero count (R102) -/

/-- The count puts the leading one of a nonzero number at bit `63 − n`. -/
theorem leadingZeros_bounds {v : Nat} (hv : v ≠ 0) (hlt : v < 2 ^ 64) :
    leadingZeros v ≤ 63 ∧ 2 ^ (63 - leadingZeros v) ≤ v ∧ v < 2 ^ (64 - leadingZeros v) := by
  have top := SmallPowers.log2_le_63 hv hlt
  rw [SmallPowers.leadingZeros_eq hv, show 63 - (63 - v.log2) = v.log2 by omega,
    show 64 - (63 - v.log2) = v.log2 + 1 by omega]
  exact ⟨Nat.sub_le .., Nat.log2_self_le hv, Nat.lt_log2_self⟩

/-- Settles O17: the count is 64 for zero by definition, and the leading one bounds it otherwise. -/
theorem lzc64CountsLeadingZeros : Obligations.Lzc64CountsLeadingZeros := by
  intro s rd rs1
  obtain ⟨value, frame⟩ := completed1_frame s rd (ofUnsigned (leadingZeros (s.reg rs1).toNat))
  refine ⟨_, rfl, frame, fun zero => ?_, fun nonzero => ?_⟩
  · simpa [readU64, zero, leadingZeros, ofUnsigned] using value
  · obtain ⟨small, lower, upper⟩ :=
      leadingZeros_bounds (fun zero => nonzero (BitVec.eq_of_toNat_eq zero)) (s.reg rs1).isLt
    exact ⟨_, small, value, lower, upper⟩

/-! ### Numbers in limbs -/

/-- The number whose `n` limbs at base `B` are `d 0`, the lowest, to `d (n − 1)`. -/
def ofLimbs (B n : Nat) (d : Nat → Nat) : Nat := ∑ j ∈ Finset.range n, d j * B ^ j

theorem ofLimbs_succ (B n : Nat) (d : Nat → Nat) : ofLimbs B (n + 1) d = d 0 + B * ofLimbs B n fun j => d (j + 1) := by
  rw [ofLimbs, Finset.sum_range_succ', ofLimbs, Finset.mul_sum, pow_zero, mul_one, add_comm]
  simp only [pow_succ', mul_left_comm]

theorem ofLimbs_succ_top (B n : Nat) (d : Nat → Nat) : ofLimbs B (n + 1) d = ofLimbs B n d + d n * B ^ n :=
  Finset.sum_range_succ ..

theorem ofLimbs_congr {B n : Nat} {d e : Nat → Nat} (h : ∀ j < n, d j = e j) : ofLimbs B n d = ofLimbs B n e :=
  Finset.sum_congr rfl fun j hj => by rw [h j (Finset.mem_range.1 hj)]

theorem ofLimbs_add (B n : Nat) (d e : Nat → Nat) : ofLimbs B n d + ofLimbs B n e = ofLimbs B n fun j => d j + e j := by
  simp only [ofLimbs, add_mul, Finset.sum_add_distrib]

theorem ofLimbs_mul_left (B n c : Nat) (d : Nat → Nat) : ofLimbs B n (fun j => c * d j) = c * ofLimbs B n d := by
  simp only [ofLimbs, mul_assoc, Finset.mul_sum]

theorem ofLimbs_lt {B n : Nat} {d : Nat → Nat} (hd : ∀ j < n, d j < B) : ofLimbs B n d < B ^ n := by
  induction n with
  | zero => simp [ofLimbs]
  | succ n ih =>
    calc ofLimbs B (n + 1) d = ofLimbs B n d + d n * B ^ n := ofLimbs_succ_top ..
      _ < (d n + 1) * B ^ n := by rw [add_one_mul]; have := ih fun j hj => hd j (by omega); omega
      _ ≤ B ^ (n + 1) := by rw [pow_succ']; exact Nat.mul_le_mul_right _ (hd n (by omega))

/-- Limbs below the base are the digits of their number. -/
theorem ofLimbs_digit {B n : Nat} {d : Nat → Nat} (hd : ∀ j < n, d j < B) {j : Nat} (hj : j < n) :
    ofLimbs B n d / B ^ j % B = d j := by
  induction n generalizing d j with
  | zero => omega
  | succ n ih =>
    have low := hd 0 (by omega)
    rw [ofLimbs_succ]
    cases j with
    | zero => rw [pow_zero, Nat.div_one, Nat.add_mul_mod_self_left, Nat.mod_eq_of_lt low]
    | succ j =>
      rw [pow_succ', ← Nat.div_div_eq_div_mul, Nat.add_mul_div_left _ _ (by omega), Nat.div_eq_of_lt low, zero_add]
      exact ih (fun i hi => hd (i + 1) (by omega)) (by omega)

/-- Bits split at bit `k`: the conjunction of two numbers goes part by part. -/
theorem and_of_parts {k a b : Nat} (ha : a < 2 ^ k) (hb : b < 2 ^ k) (r s : Nat) :
    (a + 2 ^ k * r) &&& (b + 2 ^ k * s) = (a &&& b) + 2 ^ k * (r &&& s) := by
  rw [← Nat.mod_add_div ((a + 2 ^ k * r) &&& (b + 2 ^ k * s)) (2 ^ k), Nat.and_mod_two_pow, Nat.and_div_two_pow]
  simp only [Nat.add_mul_mod_self_left, Nat.mod_eq_of_lt, Nat.add_mul_div_left _ _ (Nat.two_pow_pos k),
    Nat.div_eq_of_lt, ha, hb, zero_add]

/-! ### The bytes of a window (R103) -/

theorem byteAt_lt (v : Word) (j : Nat) : byteAt v j < 256 := Nat.mod_lt _ (by norm_num)

theorem toNat_windowByte (v : Word) (j : Nat) : (windowByte v j).toNat = byteAt v j := by
  rw [windowByte, BitVec.extractLsb'_toNat, Nat.shiftRight_eq_div_pow, byteAt, pow_mul]
  norm_num

theorem toNat_eq_ofLimbs (v : Word) : v.toNat = ofLimbs 256 8 (byteAt v) := by
  have := v.isLt
  simp only [ofLimbs, byteAt, Finset.sum_range_succ, Finset.sum_range_zero]
  omega

theorem byteAt_of_toNat {v : Word} {d : Nat → Nat} (hv : v.toNat = ofLimbs 256 8 d) (hd : ∀ j < 8, d j < 256)
    {j : Nat} (hj : j < 8) : byteAt v j = d j := by
  rw [byteAt, hv, ofLimbs_digit hd hj]

/-- Two windows are equal when their bytes are. -/
theorem eq_iff_byteAt_eq (v u : Word) : v = u ↔ ∀ j < 8, byteAt v j = byteAt u j := by
  refine ⟨fun h _ _ => by rw [h], fun h => BitVec.eq_of_toNat_eq ?_⟩
  rw [toNat_eq_ofLimbs v, toNat_eq_ofLimbs u, ofLimbs_congr h]

theorem byteAt_and (v u : Word) (j : Nat) : byteAt (v &&& u) j = byteAt v j &&& byteAt u j := by
  simp only [byteAt, BitVec.toNat_and, show 256 = 2 ^ 8 by rfl, ← pow_mul, Nat.and_div_two_pow, Nat.and_mod_two_pow]

theorem byteAt_or (v u : Word) (j : Nat) : byteAt (v ||| u) j = byteAt v j ||| byteAt u j := by
  simp only [byteAt, BitVec.toNat_or, show 256 = 2 ^ 8 by rfl, ← pow_mul, Nat.or_div_two_pow, Nat.or_mod_two_pow]

/-! ### Windows of digits (R104, R105, R107, R108) -/

theorem windowIsDigits_iff (v : Word) : windowIsDigits v = true ↔ AllDigits v := by
  simp [windowIsDigits, isDigitCode, toNat_windowByte, AllDigits]

theorem windowValue_eq (v : Word) : windowValue v = digitsValue v := by
  simp [windowValue, digitsValue, toNat_windowByte, List.sum_range_succ]

theorem exec_dec8_of_digits {s : State} {rs1 : Reg} (digits : AllDigits (s.reg rs1)) (rd : Reg) :
    exec (.dec8 rd rs1) s = .next (s.completed1 rd (ofUnsigned (windowValue (s.reg rs1)))) :=
  if_pos ((windowIsDigits_iff _).2 digits)

theorem exec_dec8_of_not_digits {s : State} {rs1 : Reg} (other : ¬ AllDigits (s.reg rs1)) (rd : Reg) :
    exec (.dec8 rd rs1) s = .next (s.raised (encode (.dec8 rd rs1)) .nondigitWindow (s.reg rs1)) :=
  if_neg (mt (windowIsDigits_iff _).1 other)

/-- Settles O18: the test of the window decides; the word in `FCW` is the issued one because a decoded word is the encoding
of its command. -/
theorem dec8DecodesDigitsOrFaults : Obligations.Dec8DecodesDigitsOrFaults := by
  constructor
  · intro s rd rs1 digits
    obtain ⟨value, frame⟩ := completed1_frame s rd (ofUnsigned (windowValue (s.reg rs1)))
    refine ⟨_, exec_dec8_of_digits digits rd, frame, ?_⟩
    rw [value, windowValue_eq, ofUnsigned]
  · intro s cw rd rs1 issues other
    obtain ⟨rfl, -⟩ := OpcodeMap.encodeAfterDecode _ _ issues.2
    refine ⟨_, ?_, raised_faultTaken ..⟩
    rw [StateRules.step_pending, perform, StateRules.issue_of_issues issues, exec_dec8_of_not_digits other]

/-- Settles O19: the command writes the test of the window, which is the rule. -/
theorem isdig8TestsTheWindow : Obligations.Isdig8TestsTheWindow := by
  intro s rd rs1
  obtain ⟨value, frame⟩ := completed1_frame s rd (boolWord (windowIsDigits (s.reg rs1)))
  refine ⟨_, rfl, frame, fun digits => value.trans ?_, fun other => value.trans ?_⟩
  · rw [(windowIsDigits_iff _).2 digits, boolWord, if_pos rfl]
  · rw [Bool.eq_false_iff.2 (mt (windowIsDigits_iff _).1 other), boolWord, if_neg Bool.false_ne_true]

/-! ### The masking test (R109) -/

/-- A byte under the mask `0xF0` keeps its high nibble. -/
theorem and_high_nibble {b : Nat} (hb : b < 256) : b &&& 0xF0 = 16 * (b / 16) := by
  have parts := and_of_parts (k := 4) (Nat.mod_lt b (by norm_num)) (Nat.two_pow_pos 4) (b / 2 ^ 4) (2 ^ 4 - 1)
  have high : b / 2 ^ 4 < 2 ^ 4 := Nat.div_lt_of_lt_mul hb
  simp only [Nat.mod_add_div, Nat.and_zero, zero_add, Nat.and_two_pow_sub_one_eq_mod, Nat.mod_eq_of_lt high] at parts
  exact parts

theorem byteAt_and_high_nibbles (v : Word) {j : Nat} (hj : j < 8) :
    byteAt (v &&& 0xF0F0F0F0F0F0F0F0) j = 16 * (byteAt v j / 16) := by
  have mask : byteAt 0xF0F0F0F0F0F0F0F0 j = 0xF0 := byteAt_of_toNat (d := fun _ => 0xF0) rfl (by simp) hj
  rw [byteAt_and, mask, and_high_nibble (byteAt_lt v j)]

/-- Shifting the high nibbles down leaves each at the bottom of its byte. -/
theorem byteAt_high_nibbles_shifted (v : Word) {j : Nat} (hj : j < 8) :
    byteAt ((v &&& 0xF0F0F0F0F0F0F0F0) >>> 4) j = byteAt v j / 16 := by
  refine byteAt_of_toNat ?_ (fun i _ => (Nat.div_le_self ..).trans_lt (byteAt_lt v i)) hj
  rw [BitVec.toNat_ushiftRight, toNat_eq_ofLimbs, ofLimbs_congr fun i hi => byteAt_and_high_nibbles v hi,
    ofLimbs_mul_left, Nat.shiftRight_eq_div_pow, Nat.mul_div_cancel_left _ (by norm_num)]

/-- The test asks that the high nibble is 3 in every byte, before and after adding 6 to each. -/
theorem swarIsDigits_iff (v : Word) :
    swarIsDigits v = true ↔ ∀ j < 8, byteAt v j / 16 = 3 ∧ byteAt (v + 0x0606060606060606) j / 16 = 3 := by
  rw [swarIsDigits, beq_iff_eq, eq_iff_byteAt_eq]
  refine forall₂_congr fun j hj => ?_
  have threes : byteAt 0x3333333333333333 j = 0x33 := byteAt_of_toNat (d := fun _ => 0x33) rfl (by simp) hj
  have low : byteAt (v + 0x0606060606060606) j / 16 < 2 ^ 4 := by have := byteAt_lt (v + 0x0606060606060606) j; omega
  rw [byteAt_or, byteAt_and_high_nibbles v hj, byteAt_high_nibbles_shifted _ hj, threes,
    ← Nat.two_pow_add_eq_or_of_lt (i := 4) low]
  omega

/-- Where no byte comes near the top, adding 6 to each carries nothing into the next. -/
theorem byteAt_add_sixes {v : Word} (room : ∀ j < 8, byteAt v j < 250) {j : Nat} (hj : j < 8) :
    byteAt (v + 0x0606060606060606) j = byteAt v j + 6 := by
  have small : ∀ j < 8, byteAt v j + 6 < 256 := fun j hj => by have := room j hj; omega
  have sixes : (0x0606060606060606 : Word).toNat = ofLimbs 256 8 fun _ => 6 := rfl
  refine byteAt_of_toNat ?_ small hj
  rw [BitVec.toNat_add, toNat_eq_ofLimbs v, sixes, ofLimbs_add]
  exact Nat.mod_eq_of_lt (ofLimbs_lt small)

theorem swarIsDigits_iff_allDigits (v : Word) : swarIsDigits v = true ↔ AllDigits v := by
  rw [swarIsDigits_iff]
  constructor
  · intro h j hj
    have room : ∀ j < 8, byteAt v j < 250 := fun j hj => by have := h j hj; omega
    have test := h j hj
    rw [byteAt_add_sixes room hj] at test
    omega
  · intro digits j hj
    have room : ∀ j < 8, byteAt v j < 250 := fun j hj => by have := digits j hj; omega
    have digit := digits j hj
    rw [byteAt_add_sixes room hj]
    omega

/-- Settles O24: the vector path is the rule, and the masking test decides it byte by byte. -/
theorem eitherDigitTestIsExact : Obligations.EitherDigitTestIsExact := by
  intro impl v
  cases impl with
  | scalar => exact swarIsDigits_iff_allDigits v
  | vector => exact windowIsDigits_iff v

/-! ### The SWAR decoder (R106) -/

/-- Each limb times `c`, plus the limb above it: what multiplying by `c × B + 1` adds up. -/
theorem ofLimbs_mul (B k c : Nat) (d : Nat → Nat) :
    ofLimbs B (k + 1) d * (c * B + 1) =
      d 0 + B * ofLimbs B k (fun j => c * d j + d (j + 1)) + c * d k * B ^ (k + 1) := by
  induction k with
  | zero => simp [ofLimbs]; ring
  | succ k ih => rw [ofLimbs_succ_top, add_mul, ih, ofLimbs_succ_top]; ring

/-- The product reduced to its word and shifted down by one limb holds exactly the sums of neighbours. -/
theorem ofLimbs_mul_mod_div {B k c : Nat} {d : Nat → Nat} (low : d 0 < B)
    (sums : ∀ j < k, c * d j + d (j + 1) < B) :
    ofLimbs B (k + 1) d * (c * B + 1) % B ^ (k + 1) / B = ofLimbs B k fun j => c * d j + d (j + 1) := by
  have fits : d 0 + B * ofLimbs B k (fun j => c * d j + d (j + 1)) < B ^ (k + 1) := by
    calc _ < B * (ofLimbs B k (fun j => c * d j + d (j + 1)) + 1) := by rw [mul_add_one]; omega
      _ ≤ B ^ (k + 1) := by rw [pow_succ']; exact Nat.mul_le_mul_left _ (ofLimbs_lt sums)
  rw [ofLimbs_mul, Nat.add_mul_mod_self_right, Nat.mod_eq_of_lt fits, Nat.add_mul_div_left _ _ (by omega),
    Nat.div_eq_of_lt low, zero_add]

/-- The mask of the even limbs leaves those, now at twice the width. -/
theorem ofLimbs_and_evens {w n : Nat} {p : Nat → Nat} (hp : ∀ j < 2 * n + 1, p j < 2 ^ w) :
    ofLimbs (2 ^ w) (2 * n + 1) p &&& ofLimbs (2 ^ (2 * w)) (n + 1) (fun _ => 2 ^ w - 1) =
      ofLimbs (2 ^ (2 * w)) (n + 1) fun i => p (2 * i) := by
  induction n generalizing p with
  | zero => simpa [ofLimbs, Nat.and_two_pow_sub_one_eq_mod] using Nat.mod_eq_of_lt (hp 0 one_pos)
  | succ n ih =>
    have low : p 0 < 2 ^ w := hp 0 (by omega)
    have next : p 1 < 2 ^ w := hp 1 (by omega)
    have lanes : ofLimbs (2 ^ w) (2 * (n + 1) + 1) p =
        (p 0 + 2 ^ w * p 1) + 2 ^ (2 * w) * ofLimbs (2 ^ w) (2 * n + 1) fun j => p (j + 2) := by
      rw [show 2 * (n + 1) + 1 = 2 * n + 1 + 1 + 1 by ring, ofLimbs_succ, ofLimbs_succ]
      ring
    have lane : p 0 + 2 ^ w * p 1 < 2 ^ (2 * w) := by
      calc _ < 2 ^ w * (p 1 + 1) := by rw [mul_add_one]; omega
        _ ≤ 2 ^ (2 * w) := by rw [two_mul, pow_add]; exact Nat.mul_le_mul_left _ next
    have mask : 2 ^ w - 1 < 2 ^ (2 * w) :=
      (Nat.sub_lt (Nat.two_pow_pos w) one_pos).trans_le (Nat.pow_le_pow_right two_pos (by omega))
    rw [lanes, ofLimbs_succ _ (n + 1), and_of_parts lane mask, ih fun j hj => hp (j + 2) (by omega),
      Nat.and_two_pow_sub_one_eq_mod, Nat.add_mul_mod_self_left, Nat.mod_eq_of_lt low, ofLimbs_succ _ (n + 1)]
    rfl

/-- Neighbouring limbs joined to one of twice the width, the lower limb the more significant. -/
def joinLimbs (c : Nat) (d : Nat → Nat) (i : Nat) : Nat := c * d (2 * i) + d (2 * i + 1)

theorem joinLimbs_le {c n D : Nat} {d : Nat → Nat} (hd : ∀ j < 2 * n, d j ≤ D) :
    ∀ i < n, joinLimbs c d i ≤ c * D + D := fun i hi =>
  Nat.add_le_add (Nat.mul_le_mul_left _ (hd _ (by omega))) (hd _ (by omega))

/-- One stage of R106 on a word of limbs of `w` bits: multiply by `c × 2^w + 1`, shift down one limb, mask the even limbs.
It joins neighbours, where the joined values still fit in `w` bits. -/
theorem swarStage_toNat {w n c D : Nat} {d : Nat → Nat} {x factor mask : Word} (width : w * (2 * n + 1 + 1) = 64)
    (hx : x.toNat = ofLimbs (2 ^ w) (2 * n + 1 + 1) d) (hd : ∀ j < 2 * n + 1 + 1, d j ≤ D) (fits : c * D + D < 2 ^ w)
    (hfactor : factor.toNat = c * 2 ^ w + 1)
    (hmask : mask.toNat = ofLimbs (2 ^ (2 * w)) (n + 1) fun _ => 2 ^ w - 1) :
    (((x * factor) >>> w) &&& mask).toNat = ofLimbs (2 ^ (2 * w)) (n + 1) (joinLimbs c d) := by
  have sums : ∀ j < 2 * n + 1, c * d j + d (j + 1) < 2 ^ w := fun j hj =>
    (Nat.add_le_add (Nat.mul_le_mul_left _ (hd j (by omega))) (hd (j + 1) (by omega))).trans_lt fits
  have low : d 0 < 2 ^ w := by have := hd 0 (by omega); omega
  have wordSize : 2 ^ 64 = (2 ^ w) ^ (2 * n + 1 + 1) := by rw [← pow_mul, width]
  rw [BitVec.toNat_and, BitVec.toNat_ushiftRight, Nat.shiftRight_eq_div_pow, BitVec.toNat_mul, hx, hfactor, hmask,
    wordSize, ofLimbs_mul_mod_div low sums, ofLimbs_and_evens sums]
  rfl

/-- The first mask of R106 leaves the values of the digits. -/
theorem toNat_and_low_nibbles {v : Word} (digits : AllDigits v) :
    (v &&& 0x0F0F0F0F0F0F0F0F).toNat = ofLimbs 256 8 fun j => byteAt v j - 0x30 := by
  rw [toNat_eq_ofLimbs]
  refine ofLimbs_congr fun j hj => ?_
  have mask : byteAt 0x0F0F0F0F0F0F0F0F j = 2 ^ 4 - 1 := byteAt_of_toNat (d := fun _ => 2 ^ 4 - 1) rfl (by simp) hj
  have := digits j hj
  rw [byteAt_and, mask, Nat.and_two_pow_sub_one_eq_mod]
  omega

/-- Three stages join digits to pairs, pairs to fours and fours to the number. -/
theorem swarDecode_toNat {v : Word} (digits : AllDigits v) : (swarDecode v).toNat = digitsValue v := by
  have nine : ∀ j < 8, byteAt v j - 0x30 ≤ 9 := fun j hj => by have := digits j hj; omega
  have pairs := swarStage_toNat (w := 8) (n := 3) (c := 10) (factor := 2561) (mask := 0x00FF00FF00FF00FF)
    rfl (toNat_and_low_nibbles digits) nine (by norm_num) rfl rfl
  have fours := swarStage_toNat (w := 16) (n := 1) (c := 100) (factor := 6553601) (mask := 0x0000FFFF0000FFFF)
    rfl pairs (joinLimbs_le nine) (by norm_num) rfl rfl
  have eight := swarStage_toNat (w := 32) (n := 0) (c := 10000) (factor := 42949672960001) (mask := 0x00000000FFFFFFFF)
    rfl fours (joinLimbs_le (joinLimbs_le nine)) (by norm_num) rfl rfl
  rw [swarDecode, eight]
  simp only [ofLimbs, joinLimbs, digitsValue, zero_add, Finset.sum_range_one, pow_zero, mul_zero, Nat.reduceMul,
    Nat.reduceAdd]
  omega

/-- Settles O23: the vector path is the rule, and the SWAR sequence joins the digits in three stages. -/
theorem eitherDecoderReadsDigits : Obligations.EitherDecoderReadsDigits := by
  intro impl v digits
  cases impl with
  | scalar => rw [builtDecoder, ← swarDecode_toNat digits, BitVec.ofNat_toNat, BitVec.setWidth_eq]
  | vector => exact congrArg ofUnsigned (windowValue_eq v)

/-! ### Character classes (R111 to R113) -/

/-- Below 2^32 the difference wraps exactly for the codes below the first digit. -/
theorem digitValue_eq {c : Nat} (hc : c < 2 ^ 32) :
    digitValue c = if c < 0x30 then 2 ^ 32 + c - 0x30 else c - 0x30 := by
  rw [digitValue]
  split
  · omega
  · omega

theorem digitValue_le_nine_iff {c : Nat} (hc : c < 2 ^ 32) : digitValue c ≤ 9 ↔ 0x30 ≤ c ∧ c ≤ 0x39 := by
  rw [digitValue]
  omega

theorem exec_isdigit_of_ne {rd rd2 : Reg} (h : rd ≠ rd2) (rs1 : Reg) (s : State) :
    exec (.isdigit rd rd2 rs1) s = .next (s.completed2 rd rd2 (boolWord (digitValue (readLow16 s rs1) ≤ 9))
      (ofUnsigned (digitValue (readLow16 s rs1)))) := checkDests_of_ne h ..

/-- Settles O20: the value wraps below the digits, and it is at most 9 exactly on them. -/
theorem isdigitGivesFlagAndValue : Obligations.IsdigitGivesFlagAndValue := by
  intro s rd rd2 rs1 hne
  obtain ⟨flag, value, frame⟩ := completed2_frame s (boolWord (digitValue (readLow16 s rs1) ≤ 9))
    (ofUnsigned (digitValue (readLow16 s rs1))) hne
  refine ⟨_, exec_isdigit_of_ne hne .., frame, fun c hc => ?_⟩
  have wrap := digitValue_eq (c := c) (by omega)
  have atMostNine := digitValue_le_nine_iff (c := c) (by omega)
  rw [flag, value, show readLow16 s rs1 = c from hc.symm]
  refine ⟨fun digit => ⟨?_, ?_⟩, fun above => ⟨?_, ?_⟩, fun below => ⟨?_, ?_⟩⟩
  · exact if_pos (decide_eq_true (atMostNine.2 digit))
  · exact congrArg ofUnsigned (wrap.trans (if_neg (by omega)))
  · exact if_neg (mt of_decide_eq_true (by omega))
  · exact congrArg ofUnsigned (wrap.trans (if_neg (by omega)))
  · exact if_neg (mt of_decide_eq_true (by omega))
  · exact congrArg ofUnsigned (wrap.trans (if_pos below))

theorem isSpaceCode_iff (c : Nat) : isSpaceCode c = true ↔ (9 ≤ c ∧ c ≤ 13) ∨ c = 32 := by
  simp only [isSpaceCode, List.contains_iff_mem, List.mem_cons, List.not_mem_nil, or_false]
  omega

/-- Settles O21: the six codes of the set are one range and the blank. -/
theorem isspaceTestsTheSixSpaces : Obligations.IsspaceTestsTheSixSpaces := by
  intro s rd rs1
  obtain ⟨value, frame⟩ := completed1_frame s rd (boolWord (isSpaceCode (readLow16 s rs1)))
  refine ⟨_, rfl, frame, ?_⟩
  rintro c rfl
  refine ⟨fun space => value.trans ?_, fun other => value.trans ?_⟩
  · exact if_pos ((isSpaceCode_iff _).2 space)
  · exact if_neg (mt (isSpaceCode_iff _).1 other)

end Sys2Proof.BitPrimitives

/-! PROOFS. The power tables of spec/41_power_tables.md: P5W (R130), P5Q (R132) and BEXP (R134), and the exactness of the
binary-exponent estimate (R136). The parts: faults at the step; the words of the ROM and the two table reads; the estimate
and its command; rational bounds of `log2 10`, and why they settle the floor for every exponent of the table. -/

namespace Sys2Proof.PowerTables

open Sys2Proof.Machine Sys2Proof.Claims

/-! ### Operand faults and the range check (R132, R134, R212) -/

/-- A command's own fault is taken by the step that issues its word: a decoded word is the encoding of its command. -/
theorem step_takes_fault_of_exec {s : State} {cw : CommandWord} {i : Instr} {cause : Cause} {info : Word}
    (issues : Issues s cw i) (faults : exec i s = .next (s.raised (encode i) cause info)) :
    ∃ t, step (s.pending (.issue cw)) = .next t ∧ FaultTaken cw cause info s t := by
  obtain ⟨rfl, -⟩ := OpcodeMap.encodeAfterDecode _ _ issues.2
  refine ⟨_, ?_, raised_faultTaken ..⟩
  rw [StateRules.stepRunsTheDecodedCommand.1 s _ _ issues, faults]

theorem inTable_iff (v : Word) : inTable v.toInt = true ↔ ¬ OutsideTable v := by
  simp only [inTable, Bool.and_eq_true, decide_eq_true_eq, OutsideTable, not_or, not_lt]
  rfl

/-! ### P5W (R130) -/

theorem romWord_lt (k : Nat) : romWord k < 2 ^ 64 := by
  obtain ⟨-, high⟩ := RomTable.powerOfFive_bounds ((k / 2 : Nat) + qMin)
  rw [romWord]
  split
  · exact Nat.div_lt_of_lt_mul high
  · exact Nat.mod_lt _ (by norm_num)

@[simp] theorem toNat_ofUnsigned_romWord (k : Nat) : (ofUnsigned (romWord k)).toNat = romWord k :=
  BitPrimitives.ofUnsigned_toNat (romWord_lt k)

theorem romWord_of_even {k : Nat} (even : k % 2 = 0) : romWord k = powerOfFive ((k : Int) / 2 - 342) / 2 ^ 64 := by
  obtain ⟨j, rfl⟩ := Nat.dvd_of_mod_eq_zero even
  rw [RomTable.romWord_even, show ((2 * j : Nat) : Int) / 2 = j by omega]

theorem romWord_of_odd {k : Nat} (odd : k % 2 = 1) : romWord k = powerOfFive (((k : Int) - 1) / 2 - 342) % 2 ^ 64 := by
  obtain ⟨j, rfl⟩ := Nat.odd_iff.2 odd
  rw [RomTable.romWord_odd, show (((2 * j + 1 : Nat) : Int) - 1) / 2 = j by omega]

theorem exec_p5w_of_le {s : State} {rs1 : Reg} (inRom : (s.reg rs1).toNat ≤ 1301) (rd : Reg) :
    exec (.p5w rd rs1) s = .next (s.completed1 rd (ofUnsigned (romWord (s.reg rs1).toNat))) :=
  if_neg (Nat.not_lt.2 inRom)

theorem exec_p5w_of_lt {s : State} {rs1 : Reg} (beyond : 1301 < (s.reg rs1).toNat) (rd : Reg) :
    exec (.p5w rd rs1) s = .next (s.raised (encode (.p5w rd rs1)) .tableRange (s.reg rs1)) :=
  if_pos beyond

/-- Settles O28: the word read is a half of a row by the parity of the index. -/
theorem p5wReadsOneWordOrFaults : Obligations.P5wReadsOneWordOrFaults := by
  refine ⟨fun s rd rs1 inRom => ?_, fun s cw rd rs1 issues beyond =>
    step_takes_fault_of_exec issues (exec_p5w_of_lt beyond rd)⟩
  obtain ⟨value, frame⟩ := completed1_frame s rd (ofUnsigned (romWord (s.reg rs1).toNat))
  refine ⟨_, exec_p5w_of_le inRom rd, frame, fun even => ?_, fun odd => ?_⟩
  · rw [value, toNat_ofUnsigned_romWord, romWord_of_even even]
  · rw [value, toNat_ofUnsigned_romWord, romWord_of_odd odd]

/-! ### P5Q (R132) -/

/-- The two words at an exponent's index are its row (R41). -/
theorem romWords_at_romIndex {q : Int} (hq : -342 ≤ q) :
    romWord (romIndex q) * 2 ^ 64 + romWord (romIndex q + 1) = powerOfFive q := by
  obtain ⟨k, hk⟩ := Int.eq_ofNat_of_zero_le (show 0 ≤ q + 342 by omega)
  obtain rfl : q = k - 342 := by omega
  have index : romIndex (k - 342) = 2 * k := by rw [romIndex, qMin]; omega
  rw [index, RomTable.romWord_even, RomTable.romWord_odd, Nat.div_add_mod']

theorem exec_p5q_of_inTable {s : State} {rd rd2 rs1 : Reg} (hne : rd ≠ rd2) (inside : ¬ OutsideTable (s.reg rs1)) :
    exec (.p5q rd rd2 rs1) s = .next (s.completed2 rd rd2 (ofUnsigned (romWord (romIndex (s.reg rs1).toInt)))
      (ofUnsigned (romWord (romIndex (s.reg rs1).toInt + 1)))) :=
  (checkDests_of_ne hne ..).trans (if_pos ((inTable_iff _).2 inside))

theorem exec_p5q_of_outside {s : State} {rd rd2 rs1 : Reg} (hne : rd ≠ rd2) (outside : OutsideTable (s.reg rs1)) :
    exec (.p5q rd rd2 rs1) s = .next (s.raised (encode (.p5q rd rd2 rs1)) .tableRange (s.reg rs1)) :=
  (checkDests_of_ne hne ..).trans (if_neg fun inside => (inTable_iff _).1 inside outside)

/-- Settles O29: the two words read are one row, and a word that decodes has different destinations. -/
theorem p5qReadsBothWordsOrFaults : Obligations.P5qReadsBothWordsOrFaults := by
  constructor
  · intro s rd rd2 rs1 hne inside
    obtain ⟨high, low, frame⟩ := completed2_frame s (ofUnsigned (romWord (romIndex (s.reg rs1).toInt)))
      (ofUnsigned (romWord (romIndex (s.reg rs1).toInt + 1))) hne
    refine ⟨_, exec_p5q_of_inTable hne inside, frame, ?_⟩
    have lower : -342 ≤ (s.reg rs1).toInt := not_lt.1 (not_or.1 inside).1
    rw [high, low, toNat_ofUnsigned_romWord, toNat_ofUnsigned_romWord, romWords_at_romIndex lower]
  · intro s cw rd rd2 rs1 issues outside
    obtain ⟨-, wellFormed⟩ := OpcodeMap.encodeAfterDecode _ _ issues.2
    have hne : rd ≠ rd2 := by simpa [Instr.wellFormed] using wellFormed
    exact step_takes_fault_of_exec issues (exec_p5q_of_outside hne outside)

/-! ### BEXP (R134) -/

/-- The estimate less its offset of 63 is the floor of `217706 q / 65536` (R134, R135). -/
theorem binaryExponent_floor (q : Int) :
    (binaryExponent q - 63) * 65536 ≤ 217706 * q ∧ 217706 * q < (binaryExponent q - 62) * 65536 := by
  obtain ⟨below, above⟩ := asr_spec (217706 * q) 16
  rw [binaryExponent]
  omega

/-- In the table's range the estimate fits in a register. -/
theorem toInt_ofSigned_binaryExponent {v : Word} (inside : ¬ OutsideTable v) :
    (ofSigned (binaryExponent v.toInt)).toInt = binaryExponent v.toInt := by
  obtain ⟨lower, upper⟩ := not_or.1 inside
  obtain ⟨below, above⟩ := binaryExponent_floor v.toInt
  exact BitVec.toInt_ofInt_eq_self (by norm_num) (by omega) (by omega)

theorem exec_bexp_of_inTable {s : State} {rs1 : Reg} (inside : ¬ OutsideTable (s.reg rs1)) (rd : Reg) :
    exec (.bexp rd rs1) s = .next (s.completed1 rd (ofSigned (binaryExponent (s.reg rs1).toInt))) :=
  if_pos ((inTable_iff _).2 inside)

theorem exec_bexp_of_outside {s : State} {rs1 : Reg} (outside : OutsideTable (s.reg rs1)) (rd : Reg) :
    exec (.bexp rd rs1) s = .next (s.raised (encode (.bexp rd rs1)) .exponentRange (s.reg rs1)) :=
  if_neg fun inside => (inTable_iff _).1 inside outside

/-- Settles O30: the register holds the estimate itself, which is the floor. -/
theorem bexpEstimatesOrFaults : Obligations.BexpEstimatesOrFaults := by
  refine ⟨fun s rd rs1 inside => ?_, fun s cw rd rs1 issues outside =>
    step_takes_fault_of_exec issues (exec_bexp_of_outside outside rd)⟩
  obtain ⟨value, frame⟩ := completed1_frame s rd (ofSigned (binaryExponent (s.reg rs1).toInt))
  refine ⟨_, exec_bexp_of_inTable inside rd, frame, ?_⟩
  rw [value, toInt_ofSigned_binaryExponent inside]
  exact binaryExponent_floor _

/-! ### The estimate is exact (R136)

`log2 10` lies between `2621/789` and `2136/643`, and both are so near to `217706/65536` that the floor is the same for
every exponent of the table. -/

theorem two_zpow_le_ten_zpow_iff (k q : Int) : (2 : ℚ) ^ k ≤ 10 ^ q ↔ (k : ℝ) ≤ q * Real.logb 2 10 := by
  rw [← Real.logb_rpow_eq_mul_logb_of_pos (by norm_num), Real.le_logb_iff_rpow_le one_lt_two (by positivity),
    Real.rpow_intCast, Real.rpow_intCast, ← Rat.cast_le (K := ℝ)]
  push_cast
  rfl

theorem ten_zpow_lt_two_zpow_iff (k q : Int) : (10 : ℚ) ^ q < 2 ^ k ↔ q * Real.logb 2 10 < (k : ℝ) := by
  rw [← not_le, two_zpow_le_ten_zpow_iff, not_le]

theorem logb_ten_bounds : (2621 / 789 : ℝ) ≤ Real.logb 2 10 ∧ Real.logb 2 10 < 2136 / 643 := by
  have lower := (two_zpow_le_ten_zpow_iff 2621 789).1 (by
    exact_mod_cast (by decide +kernel : 2 ^ 2621 ≤ 10 ^ 789))
  have upper := (ten_zpow_lt_two_zpow_iff 2136 643).1 (by
    exact_mod_cast (by decide +kernel : 10 ^ 643 < 2 ^ 2136))
  push_cast at lower upper
  constructor <;> linarith

/-- Up to 642 no `k / n` lies above `485/146` and not above `217706/65536`: `485/146` and `1651/497` are neighbours, so
a fraction strictly between them has at least the denominator `146 + 497`. -/
theorem le_of_le_estimate {k n : Int} (pos : 0 < n) (small : n < 643) (below : 65536 * k ≤ 217706 * n) :
    146 * k ≤ 485 * n := by
  by_contra! above
  have upper : 497 * k < 1651 * n := by omega
  have combined : n = 497 * (146 * k - 485 * n) + 146 * (1651 * n - 497 * k) := by ring
  omega

/-- The floor of the estimate does not exceed `q log2 10`. -/
theorem floor_le_mul_logb {k q : Int} (small : q ≤ 308) (below : k * 65536 ≤ 217706 * q) :
    (k : ℝ) ≤ q * Real.logb 2 10 := by
  obtain ⟨lower, upper⟩ := logb_ten_bounds
  rcases le_or_gt q 0 with nonpos | pos
  · have bound : (643 * k : ℝ) ≤ 2136 * q := by exact_mod_cast (by omega : 643 * k ≤ 2136 * q)
    have scaled := mul_le_mul_of_nonpos_left upper.le (Int.cast_nonpos (R := ℝ).2 nonpos)
    linarith
  · have tight := le_of_le_estimate pos (by omega) (by omega : 65536 * k ≤ 217706 * q)
    have bound : (789 * k : ℝ) ≤ 2621 * q := by exact_mod_cast (by omega : 789 * k ≤ 2621 * q)
    have scaled := mul_le_mul_of_nonneg_left lower (Int.cast_nonneg (R := ℝ) pos.le)
    linarith

/-- The next integer above the floor of the estimate exceeds `q log2 10`. -/
theorem mul_logb_lt_succ_floor {k q : Int} (small : -342 ≤ q) (above : 217706 * q < k * 65536) :
    q * Real.logb 2 10 < k := by
  obtain ⟨lower, upper⟩ := logb_ten_bounds
  rcases lt_or_ge q 0 with neg | nonneg
  · have tight := le_of_le_estimate (k := -k) (n := -q) (by omega) (by omega) (by omega)
    have bound : (2621 * q : ℝ) < 789 * k := by exact_mod_cast (by omega : 2621 * q < 789 * k)
    have scaled := mul_le_mul_of_nonpos_left lower (Int.cast_nonpos (R := ℝ).2 neg.le)
    linarith
  · have bound : (2136 * q : ℝ) < 643 * k := by exact_mod_cast (by omega : 2136 * q < 643 * k)
    have scaled := mul_le_mul_of_nonneg_left upper.le (Int.cast_nonneg (R := ℝ) nonneg)
    linarith

/-- Settles O31: in logarithms the two bounds say that `e - 63` is the floor of `q log2 10`. -/
theorem bexpEstimateIsExactInRange : Obligations.BexpEstimateIsExactInRange := by
  intro q lower upper
  obtain ⟨below, above⟩ := binaryExponent_floor q
  rw [two_zpow_le_ten_zpow_iff, ten_zpow_lt_two_zpow_iff]
  exact ⟨floor_le_mul_logb upper below, mul_logb_lt_succ_floor lower above⟩

end Sys2Proof.PowerTables

/-! PROOFS. What EL64 and EL32 answer (spec/42_eisel_lemire.md), and that the Assembler takes it (spec/43_assembler.md).
The parts: what R151's columns have in common; the product of stages 3 and 4 as one 128-bit number; the forms that the
rounding stages can give (R166); CORE and the truncation check; the two commands; EL as the pseudocode of R164; saturation
and the safe window; the pattern of ASM; ASM on an answer of EL (R167, R191, R199). -/

namespace Sys2Proof.EiselLemire

open Sys2Proof.Machine Sys2Proof.Claims

/-! ### The columns of R151 -/

/-- What the two formats have in common: an IEEE-754 layout whose all-ones exponent is `INF`, and the safe window. -/
structure Layout (F : Format) : Prop where
  eb_le : F.eb ≤ 52
  width_le : F.width ≤ 64
  exponent_bits : F.eb + 3 ≤ F.width
  inf_eq : F.inf + 1 = 2 ^ (F.width - 1 - F.eb)
  safeLo_eq : F.safeLo = -27
  safeHi_eq : F.safeHi = 55

theorem layout_binary64 : Layout binary64 := by constructor <;> decide

theorem layout_binary32 : Layout binary32 := by constructor <;> decide

theorem Layout.inf_bounds {F : Format} (layout : Layout F) : 2 ≤ F.inf ∧ F.inf < 2 ^ 63 := by
  have eq := layout.inf_eq
  have width := layout.width_le
  have bits := layout.exponent_bits
  have lower : 2 ^ 2 ≤ 2 ^ (F.width - 1 - F.eb) := Nat.pow_le_pow_right two_pos (by omega)
  have upper : 2 ^ (F.width - 1 - F.eb) ≤ 2 ^ 63 := Nat.pow_le_pow_right two_pos (by omega)
  omega

/-! ### The product of stages 3 and 4 -/

theorem normalisedMantissa_bounds {w : Nat} (hw : w ≠ 0) (hlt : w < 2 ^ 64) :
    2 ^ 63 ≤ normalisedMantissa w ∧ normalisedMantissa w < 2 ^ 64 := by
  rw [SmallPowers.normalisedMantissa_eq hw hlt]
  exact SmallPowers.leadingOne_shift_bounds hw (SmallPowers.log2_le_63 hw hlt)

/-- The index of an exponent is even, so the word there is the high half of a row (R44). -/
theorem romWord_romIndex_bounds (q : Int) : 2 ^ 63 ≤ romWord (romIndex q) ∧ romWord (romIndex q) < 2 ^ 64 := by
  have even : romIndex q % 2 = 0 := by rw [romIndex]; omega
  obtain ⟨lower, -⟩ := RomTable.powerOfFive_bounds ((romIndex q : Int) / 2 - 342)
  refine ⟨?_, PowerTables.romWord_lt _⟩
  rw [PowerTables.romWord_of_even even]
  omega

/-- The carry of stage 4 makes it an addition to the whole product (R156). -/
theorem addToLow_value128 (P : Nat) {h2 : Nat} (hlt : h2 < 2 ^ 64) : addToLow (value128 P) h2 = value128 (P + h2) := by
  rw [addToLow]
  split <;> simp only [value128, Value128.mk.injEq] at * <;> omega

/-- The product of two normalised factors has its leading one at bit 126 or 127, and stage 4 does not carry out of it:
the first product is at most `(2^64 − 1)^2` and the second adds less than `2^64` (R158). -/
theorem elProduct_eq_value128 (F : Format) {w : Nat} (hw : w ≠ 0) (hlt : w < 2 ^ 64) (q : Int) :
    ∃ P, elProduct F w q = value128 P ∧ 2 ^ 126 ≤ P ∧ P < 2 ^ 128 := by
  obtain ⟨wLo, wHi⟩ := normalisedMantissa_bounds hw hlt
  obtain ⟨rowLo, rowHi⟩ := romWord_romIndex_bounds q
  have second := BitPrimitives.fullMultiply_hi_lt wHi (PowerTables.romWord_lt (romIndex q + 1))
  have lower := Nat.mul_le_mul wLo rowLo
  have upper := Nat.mul_le_mul (Nat.le_sub_one_of_lt wHi) (Nat.le_sub_one_of_lt rowHi)
  rw [elProduct, refinedProduct]
  split
  · exact ⟨_, addToLow_value128 _ second, by omega, by omega⟩
  · exact ⟨_, rfl, by omega, by omega⟩

/-- Stage 6 keeps `EB + 2` bits of a product (R158). -/
theorem extractedMantissa_bounds {F : Format} (eb_le : F.eb ≤ 52) {w : Nat} (hw : w ≠ 0) (hlt : w < 2 ^ 64) (q : Int) :
    2 ^ (F.eb + 1) ≤ extractedMantissa F (elProduct F w q) ∧
      extractedMantissa F (elProduct F w q) < 2 ^ (F.eb + 2) := by
  obtain ⟨P, eq, lower, upper⟩ := elProduct_eq_value128 F hw hlt q
  obtain ⟨keptLo, keptHi⟩ := SmallPowers.keptBits_bounds eb_le lower upper
  rw [eq, SmallPowers.extractedMantissa_eq]
  exact ⟨(Nat.le_div_iff_mul_le (by positivity)).2 keptLo, (Nat.div_lt_iff_lt_mul (by positivity)).2 keptHi⟩

/-! ### The forms of a rounded result (R166) -/

/-- The four forms of R166 that are no decline. -/
def AmForm (F : Format) (am : AdjustedMantissa) : Prop :=
  ElForm F.eb F.inf am.mantissa am.power2 ∧ 0 ≤ am.power2

theorem amForm_zero (F : Format) : AmForm F amZero := ⟨.inl ⟨rfl, rfl⟩, le_rfl⟩

theorem amForm_infinity (F : Format) : AmForm F (amInfinity F) :=
  ⟨.inr (.inr (.inr (.inl ⟨rfl, rfl⟩))), Int.natCast_nonneg _⟩

theorem amForm_of_power2_eq_zero {F : Format} {m : Nat} (hm : m < 2 ^ F.eb) : AmForm F ⟨m, 0⟩ := by
  refine ⟨?_, le_rfl⟩
  rcases Nat.eq_zero_or_pos m with zero | pos
  · exact .inl ⟨zero, rfl⟩
  · exact .inr (.inl ⟨pos, hm, rfl⟩)

theorem amForm_normal {F : Format} {m : Nat} {p2 : Int} (mLo : 2 ^ F.eb ≤ m) (mHi : m < 2 ^ (F.eb + 1)) (pLo : 1 ≤ p2)
    (pHi : p2 < F.inf) : AmForm F ⟨m, p2⟩ :=
  ⟨.inr (.inr (.inl ⟨mLo, mHi, pLo, Int.le_sub_one_of_lt pHi⟩)), Int.le_trans (by decide) pLo⟩

theorem AmForm.mantissa_lt {F : Format} {am : AdjustedMantissa} (form : AmForm F am) :
    am.mantissa < 2 ^ (F.eb + 1) := by
  have double : 2 ^ (F.eb + 1) = 2 * 2 ^ F.eb := pow_succ' ..
  have positive : 0 < 2 ^ F.eb := by positivity
  obtain ⟨⟨m, -⟩ | ⟨-, mHi, -⟩ | ⟨-, mHi, -⟩ | ⟨m, -⟩ | ⟨m, -⟩, -⟩ := form <;> omega

theorem AmForm.power2_le {F : Format} {am : AdjustedMantissa} (form : AmForm F am) : am.power2 ≤ F.inf := by
  obtain ⟨⟨-, zero⟩ | ⟨-, -, zero⟩ | ⟨-, -, -, lt⟩ | ⟨-, inf⟩ | ⟨-, decline⟩, nonneg⟩ := form <;> omega

/-- The registers hold a value's fields themselves, not reduced (R9, R21). -/
theorem AmForm.toNat_mantissa {F : Format} (layout : Layout F) {am : AdjustedMantissa} (form : AmForm F am) :
    (BitVec.ofNat 64 am.mantissa).toNat = am.mantissa := by
  have eb := layout.eb_le
  have small : 2 ^ (F.eb + 1) ≤ 2 ^ 64 := Nat.pow_le_pow_right two_pos (by omega)
  exact BitPrimitives.ofUnsigned_toNat (form.mantissa_lt.trans_le small)

theorem AmForm.toInt_power2 {F : Format} (layout : Layout F) {am : AdjustedMantissa} (form : AmForm F am) :
    (BitVec.ofInt 64 am.power2).toInt = am.power2 := by
  have nonneg := form.2
  have le := form.power2_le
  have small := layout.inf_bounds.2
  exact BitVec.toInt_ofInt_eq_self (by norm_num) (by omega) (by omega)

/-- The power2 register holds −1 only for a decline (R167). -/
theorem power2Word_ne_of_form {F : Format} (layout : Layout F) {am : AdjustedMantissa} (form : AmForm F am) :
    BitVec.ofInt 64 am.power2 ≠ 0xFFFFFFFFFFFFFFFF := by
  intro eq
  have toInt := form.toInt_power2 layout
  have nonneg := form.2
  rw [eq, show (0xFFFFFFFFFFFFFFFF : Word).toInt = -1 by decide] at toInt
  omega

theorem roundOnLowBit_eq (m : Nat) : roundOnLowBit m = (m + 1) / 2 := by
  rw [roundOnLowBit, Nat.shiftRight_eq_div_pow]
  omega

/-- Stage 7 shifts right at least once, so it rounds to at most `2^EB`, which is the least normal value (R159). -/
theorem roundSubnormal_form {F : Format} (inf_gt : 1 < F.inf) {m : Nat} {p2 : Int} (mHi : m < 2 ^ (F.eb + 2))
    (subnormal : p2 ≤ 0) : AmForm F (roundSubnormal F m p2) := by
  obtain ⟨k, hk⟩ : ∃ k, (1 - p2).toNat = k + 1 := ⟨(-p2).toNat, by omega⟩
  have bound : m >>> (k + 1) < 2 ^ (F.eb + 1) := by
    rw [Nat.shiftRight_eq_div_pow, Nat.div_lt_iff_lt_mul (by positivity), ← pow_add]
    exact mHi.trans_le (Nat.pow_le_pow_right two_pos (by omega))
  have double : 2 ^ (F.eb + 1) = 2 * 2 ^ F.eb := pow_succ' ..
  rw [roundSubnormal, hk, roundOnLowBit_eq]
  generalize m >>> (k + 1) = kept at *
  split
  · exact amForm_zero F
  · dsimp only
    split
    · exact amForm_of_power2_eq_zero ‹_›
    · exact amForm_normal (by omega) (by omega) le_rfl (by omega)

/-- Stage 8 takes at most the round bit (R160). -/
theorem clearTie_cases (F : Format) (q : Int) (p : Value128) (m : Nat) :
    clearTie F q p m = m ∨ (m % 4 = 1 ∧ clearTie F q p m = m - 1) := by
  rw [clearTie]
  split
  · rename_i tie
    obtain ⟨-, -, -, oneMod4, -⟩ := tie
    exact .inr ⟨oneMod4, rfl⟩
  · exact .inl rfl

theorem le_clearTie {F : Format} {m : Nat} (h : 2 ^ (F.eb + 1) ≤ m) (q : Int) (p : Value128) :
    2 ^ (F.eb + 1) ≤ clearTie F q p m := by
  have double : 2 ^ (F.eb + 1) = 2 * 2 ^ F.eb := pow_succ' ..
  obtain eq | ⟨oneMod4, eq⟩ := clearTie_cases F q p m <;> omega

/-- Stage 11 turns an exponent from `INF` on into infinity (R161). -/
theorem amForm_overflow {F : Format} {m : Nat} {p2 : Int} (mLo : 2 ^ F.eb ≤ m) (mHi : m < 2 ^ (F.eb + 1))
    (normal : 1 ≤ p2) : AmForm F (if F.inf ≤ p2 then amInfinity F else ⟨m, p2⟩) := by
  split
  · exact amForm_infinity F
  · exact amForm_normal mLo mHi normal (not_le.1 ‹_›)

/-- Stages 9 to 11 make a mantissa of `EB + 1` bits, or infinity (R161). -/
theorem roundNormal_form {F : Format} {m : Nat} {p2 : Int} (mLo : 2 ^ (F.eb + 1) ≤ m) (normal : 1 ≤ p2) :
    AmForm F (roundNormal F m p2) := by
  have double : 2 ^ (F.eb + 1) = 2 * 2 ^ F.eb := pow_succ' ..
  have positive : 0 < 2 ^ F.eb := by positivity
  rw [roundNormal, roundOnLowBit_eq]
  by_cases carry : 2 ^ (F.eb + 1) ≤ (m + 1) / 2
  · simp only [if_pos carry]
    exact amForm_overflow le_rfl (by omega) (by omega)
  · simp only [if_neg carry]
    exact amForm_overflow (by omega) (by omega) normal

theorem roundProduct_form {F : Format} (layout : Layout F) {w : Nat} (hw : w ≠ 0) (hlt : w < 2 ^ 64) (q : Int) :
    AmForm F (roundProduct F w q (elProduct F w q)) := by
  obtain ⟨lower, upper⟩ := extractedMantissa_bounds layout.eb_le hw hlt q
  rw [roundProduct]
  split
  · exact roundSubnormal_form layout.inf_bounds.1 upper ‹_›
  · exact roundNormal_form (le_clearTie lower q _) (by omega)

/-! ### CORE and the truncation check (R163) -/

section
variable {F : Format} {w : Nat} {q : Int}

theorem elCore_of_zero_or_lt (h : w = 0 ∨ q < F.qLo) : elCore F w q = .value amZero := by
  rw [elCore, saturated, if_pos h]

theorem elCore_of_qHi_lt (hw : w ≠ 0) (lower : F.qLo ≤ q) (above : F.qHi < q) :
    elCore F w q = .value (amInfinity F) := by
  rw [elCore, saturated, if_neg (by omega), if_pos above]

theorem elCore_of_inRange (hw : w ≠ 0) (lower : F.qLo ≤ q) (upper : q ≤ F.qHi) :
    elCore F w q = if ambiguous F q (elProduct F w q) then .decline
      else .value (roundProduct F w q (elProduct F w q)) := by
  rw [elCore, saturated, if_neg (by omega), if_neg (by omega)]

theorem elCore_form {am : AdjustedMantissa} (layout : Layout F) (hlt : w < 2 ^ 64) (value : elCore F w q = .value am) :
    AmForm F am := by
  obtain ⟨zero, sat⟩ | ⟨nonzero, lower, above, sat⟩ | ⟨nonzero, lower, upper, -⟩ := saturated_cases F w q
  · obtain rfl : amZero = am := by simpa [elCore_of_zero_or_lt zero] using value
    exact amForm_zero F
  · obtain rfl : amInfinity F = am := by simpa [elCore_of_qHi_lt nonzero lower above] using value
    exact amForm_infinity F
  · rw [elCore_of_inRange nonzero lower upper] at value
    split at value
    · cases value
    · cases value
      exact roundProduct_form layout nonzero hlt q

/-- Stage 12 passes on what CORE answers or declines (R163). -/
theorem elApprox_cases (F : Format) (w : Nat) (q : Int) (t : Bool) :
    elApprox F w q t = .decline ∨ elApprox F w q t = elCore F w q := by
  rw [elApprox]
  split
  · exact .inl rfl
  · exact .inr rfl

/-- Stage 12 accepts where both bounds of a truncated literal have one answer (R163). -/
theorem elApprox_of_agree {t : Bool} {a : Approximation} (core : elCore F w q = a)
    (next : t = true → elCore F ((w + 1) % 2 ^ 64) q = a) : elApprox F w q t = a := by
  rw [elApprox, core]
  cases t with
  | false => rfl
  | true => rw [next rfl, bne_self_eq_false, Bool.and_false, if_neg Bool.false_ne_true]

end

/-- An answer of EL that is no decline has one of the four other forms. -/
theorem elAnswer_form {F : Format} (layout : Layout F) {rs1 rs2 rs3 : Reg} {s : State} {am : AdjustedMantissa}
    (value : elAnswer F rs1 rs2 rs3 s = .value am) : AmForm F am := by
  rw [elAnswer] at value
  obtain decline | core := elApprox_cases F (readU64 s rs1) (readS64 s rs2) (readBit0 s rs3)
  · simp [decline] at value
  · exact elCore_form layout (s.reg rs1).isLt (core.symm.trans value)

/-! ### The two commands -/

/-- What an answer of CORE is in the pseudocode of R164: `none` is DECLINE. -/
def corePair : Approximation → Option (Nat × Int)
  | .decline => none
  | .value am => some (am.mantissa, am.power2)

/-- The mantissa and the power2 that EL writes for an answer, `(0, −1)` for a decline (R162). -/
def elPair : Approximation → Nat × Int
  | .decline => (0, -1)
  | .value am => (am.mantissa, am.power2)

theorem corePair_injective : Function.Injective corePair := by
  intro a b h
  cases a with
  | decline => cases b with
    | decline => rfl
    | value _ => cases h
  | value am => cases b with
    | decline => cases h
    | value am' =>
      cases am
      cases am'
      simpa [corePair] using h

theorem mantissaWord_eq (a : Approximation) : a.mantissaWord = BitVec.ofNat 64 (elPair a).1 := by cases a <;> rfl

theorem power2Word_eq (a : Approximation) : a.power2Word = BitVec.ofInt 64 (elPair a).2 := by cases a <;> rfl

/-- A completion with an answer of EL: its destinations hold the answer's pair, and nothing else changes. -/
theorem completed2_elPair {rd rd2 : Reg} (hne : rd ≠ rd2) (s : State) (a : Approximation) :
    CompletedFrame [rd, rd2] s (s.completed2 rd rd2 a.mantissaWord a.power2Word) ∧
      (s.completed2 rd rd2 a.mantissaWord a.power2Word).reg rd = BitVec.ofNat 64 (elPair a).1 ∧
      (s.completed2 rd rd2 a.mantissaWord a.power2Word).reg rd2 = BitVec.ofInt 64 (elPair a).2 := by
  obtain ⟨mantissa, power2, frame⟩ := completed2_frame s a.mantissaWord a.power2Word hne
  exact ⟨frame, mantissa.trans (mantissaWord_eq a), power2.trans (power2Word_eq a)⟩

theorem elForm_elPair {F : Format} (layout : Layout F) (rs1 rs2 rs3 : Reg) (s : State) :
    ElForm F.eb F.inf (elPair (elAnswer F rs1 rs2 rs3 s)).1 (elPair (elAnswer F rs1 rs2 rs3 s)).2 := by
  cases answer : elAnswer F rs1 rs2 rs3 s with
  | decline => exact .inr (.inr (.inr (.inr ⟨rfl, rfl⟩)))
  | value am => exact (elAnswer_form layout answer).1

/-- Settles O34: the product keeps its leading one at bit 126 or 127, so stage 6 extracts `EB + 2` bits, and rounding
those can only give the forms of R166. -/
theorem elResultsHaveOneOfFiveForms : Obligations.ElResultsHaveOneOfFiveForms := by
  intro s rd rd2 rs1 rs2 rs3 hne
  obtain ⟨-, mantissa64, power64⟩ := completed2_elPair hne s (elAnswer binary64 rs1 rs2 rs3 s)
  obtain ⟨-, mantissa32, power32⟩ := completed2_elPair hne s (elAnswer binary32 rs1 rs2 rs3 s)
  exact ⟨⟨_, _, _, SmallPowers.exec_el64_of_ne hne .., mantissa64, power64, elForm_elPair layout_binary64 ..⟩,
    _, _, _, SmallPowers.exec_el32_of_ne hne .., mantissa32, power32, elForm_elPair layout_binary32 ..⟩

/-! ### EL is the pseudocode of R164 -/

/-- Stage 4 as R164 writes it: `lo` first, and `hi` by comparing the second product with the new `lo` (R156). -/
theorem refinedProduct_eq (F : Format) (wn : Nat) (q : Int) (hi lo : Nat) {h2 lo' : Nat} {second : Bool}
    (hsecond : second = decide (hi &&& formatMask F = formatMask F))
    (hh2 : h2 = (fullMultiply wn (romWord (romIndex q + 1))).hi)
    (hlo' : lo' = if second = true then (lo + h2) % 2 ^ 64 else lo) :
    refinedProduct F wn q ⟨hi, lo⟩ = ⟨if second = true ∧ h2 > lo' then hi + 1 else hi, lo'⟩ := by
  subst hsecond hlo'
  rw [refinedProduct, ← hh2]
  by_cases ones : hi &&& formatMask F = formatMask F
  · simp only [ones, decide_true, if_true, true_and, addToLow, gt_iff_lt]
    split <;> rfl
  · simp only [ones, decide_false, Bool.false_eq_true, if_false, false_and]

theorem roundOnLowBit_eq_half (m : Nat) : roundOnLowBit m = (m + m % 2) / 2 := Nat.shiftRight_eq_div_pow ..

/-- Stages 1 to 11, line by line against `CORE` of R164. -/
theorem pseudoCore_eq {F : Format} (layout : Layout F) (w : Nat) (q : Int) :
    pseudoCore F.eb F.minExp F.inf F.qLo F.qHi (formatMask F) F.rteLo F.rteHi w q = corePair (elCore F w q) := by
  obtain ⟨zero, -⟩ | ⟨nonzero, lower, above, -⟩ | ⟨nonzero, lower, upper, -⟩ := saturated_cases F w q
  · rw [pseudoCore, if_pos zero, elCore_of_zero_or_lt zero]
    rfl
  · rw [pseudoCore, if_neg (by omega), if_pos above, elCore_of_qHi_lt nonzero lower above]
    rfl
  · rw [pseudoCore, if_neg (by omega), if_neg (by omega), elCore_of_inRange nonzero lower upper]
    extract_lets lz wn idx hi0 lo0 h2 second lo hi ub sh m p2 sub1 sub2 tied rounded mantissa power
    have shift : leadingZeros w = lz := SmallPowers.leadingZeros_eq nonzero
    have normalised : normalisedMantissa w = wn := by rw [normalisedMantissa, shift, Nat.shiftLeft_eq]
    have index : romIndex q = idx := by rw [romIndex, qMin, sub_neg_eq_add]
    have product : elProduct F w q = ⟨hi, lo⟩ := by
      rw [elProduct, normalised, firstProduct, index]
      exact refinedProduct_eq F wn q hi0 lo0 rfl (by rw [index]; rfl) rfl
    have decline : ambiguous F q ⟨hi, lo⟩ = true ↔ lo = 2 ^ 64 - 1 ∧ (q < -27 ∨ q > 55) := by
      simp only [ambiguous, layout.safeLo_eq, layout.safeHi_eq, Bool.and_eq_true, Bool.or_eq_true, beq_iff_eq,
        decide_eq_true_eq, gt_iff_lt]
    have kept : extractedMantissa F ⟨hi, lo⟩ = m := Nat.shiftRight_eq_div_pow ..
    have exponent : extractedPower F w q ⟨hi, lo⟩ = p2 := by
      rw [extractedPower, shift]
      rfl
    have subnormal : roundOnLowBit (m >>> (1 - p2).toNat) = sub2 := by
      rw [roundOnLowBit_eq_half, Nat.shiftRight_eq_div_pow]
    have tie : clearTie F q ⟨hi, lo⟩ m = tied := by
      rw [clearTie, Nat.shiftLeft_eq]
      rfl
    have round : roundOnLowBit tied = rounded := roundOnLowBit_eq_half tied
    rw [product, if_congr decline rfl rfl, roundProduct, kept, exponent, roundSubnormal, subnormal, roundNormal, tie,
      round]
    split
    · rfl
    · split
      · split <;> rfl
      · simp only [mantissa, power, ge_iff_le]
        split <;> split <;> rfl

/-- Stage 12, where the pseudocode passes a pair or DECLINE on (R163). -/
theorem pseudoEl_eq {F : Format} {core : Nat → Int → Option (Nat × Int)}
    (h : ∀ w q, core w q = corePair (elCore F w q)) (w : Nat) (q : Int) (t : Bool) :
    pseudoEl core w q t = elPair (elApprox F w q t) := by
  rw [pseudoEl, elApprox, h, h]
  cases eq : elCore F w q with
  | decline => rw [ite_self]; rfl
  | value am =>
    have differ : (t && elCore F ((w + 1) % 2 ^ 64) q != .value am) = true ↔
        t = true ∧ corePair (elCore F ((w + 1) % 2 ^ 64) q) ≠ corePair (.value am) := by
      rw [Bool.and_eq_true, bne_iff_ne, corePair_injective.ne_iff]
    rw [if_congr differ rfl rfl, apply_ite elPair]
    rfl

theorem pseudoCore64_eq (w : Nat) (q : Int) : pseudoCore64 w q = corePair (elCore binary64 w q) :=
  pseudoCore_eq layout_binary64 w q

theorem pseudoCore32_eq (w : Nat) (q : Int) : pseudoCore32 w q = corePair (elCore binary32 w q) :=
  pseudoCore_eq layout_binary32 w q

/-- Settles O32: the twelve stages are the pseudocode, under the binary64 column. -/
theorem el64ComputesTheTwelveStages : Obligations.El64ComputesTheTwelveStages := by
  intro s rd rd2 rs1 rs2 rs3 hne
  rw [pseudoEl_eq pseudoCore64_eq]
  exact ⟨_, SmallPowers.exec_el64_of_ne hne .., completed2_elPair hne s _⟩

/-- Settles O33: the same under the binary32 column. -/
theorem el32ComputesTheTwelveStages : Obligations.El32ComputesTheTwelveStages := by
  intro s rd rd2 rs1 rs2 rs3 hne
  rw [pseudoEl_eq pseudoCore32_eq]
  exact ⟨_, SmallPowers.exec_el32_of_ne hne .., completed2_elPair hne s _⟩

/-! ### Saturation and the safe window (R152, R157) -/

theorem elApprox_of_lt_qLo {F : Format} {q : Int} (below : q < F.qLo) (w : Nat) (t : Bool) :
    elApprox F w q t = .value amZero :=
  elApprox_of_agree (elCore_of_zero_or_lt (.inr below)) fun _ => elCore_of_zero_or_lt (.inr below)

theorem elApprox_of_qHi_lt {F : Format} {w : Nat} {q : Int} {t : Bool} (hw : w ≠ 0)
    (noWrap : t = false ∨ (w + 1) % 2 ^ 64 ≠ 0) (range : F.qLo ≤ F.qHi) (above : F.qHi < q) :
    elApprox F w q t = .value (amInfinity F) := by
  refine elApprox_of_agree (elCore_of_qHi_lt hw (by omega) above) fun truncated => ?_
  obtain untruncated | nonzero := noWrap
  · exact absurd truncated (by simp [untruncated])
  · exact elCore_of_qHi_lt nonzero (by omega) above

/-- The three ways to saturate, in either format (R152, and R163 for `t = 1`). -/
theorem elAnswer_saturates {F : Format} (range : F.qLo ≤ F.qHi) (rs1 rs2 rs3 : Reg) (s : State) :
    ((s.reg rs2).toInt < F.qLo → elAnswer F rs1 rs2 rs3 s = .value amZero) ∧
      ((s.reg rs3).getLsbD 0 = false → s.reg rs1 = 0 → elAnswer F rs1 rs2 rs3 s = .value amZero) ∧
      (s.reg rs1 ≠ 0 → (s.reg rs3).getLsbD 0 = false ∨ s.reg rs1 ≠ 0xFFFFFFFFFFFFFFFF →
        F.qHi < (s.reg rs2).toInt → elAnswer F rs1 rs2 rs3 s = .value (amInfinity F)) := by
  refine ⟨fun below => elApprox_of_lt_qLo below _ _, fun untruncated zero => ?_, fun nonzero noWrap above => ?_⟩
  · rw [SmallPowers.elAnswer_of_not_truncated F untruncated, zero]
    exact elCore_of_zero_or_lt (.inl rfl)
  · refine elApprox_of_qHi_lt (fun zero => nonzero (BitVec.eq_of_toNat_eq zero)) (noWrap.imp_right ?_) range above
    intro ne
    rw [readU64]
    bv_omega

/-- Settles O35: where stage 1 decides, it decides the same for `w` and for `w + 1`, unless `w + 1` wraps to 0. -/
theorem elSaturatesOutsideTheRange : Obligations.ElSaturatesOutsideTheRange := by
  intro s rd rd2 rs1 rs2 rs3 hne
  obtain ⟨below64, zero64, above64⟩ := elAnswer_saturates (F := binary64) (by decide) rs1 rs2 rs3 s
  obtain ⟨below32, zero32, above32⟩ := elAnswer_saturates (F := binary32) (by decide) rs1 rs2 rs3 s
  refine ⟨_, _, SmallPowers.exec_el64_of_ne hne .., SmallPowers.exec_el32_of_ne hne .., ?_, ?_, ?_, ?_⟩
  · exact fun below => SmallPowers.completed2_answer hne s (below64 below)
  · exact fun below => SmallPowers.completed2_answer hne s (below32 below)
  · intro untruncated zero
    obtain ⟨m64, p64⟩ := SmallPowers.completed2_answer hne s (zero64 untruncated zero)
    obtain ⟨m32, p32⟩ := SmallPowers.completed2_answer hne s (zero32 untruncated zero)
    exact ⟨m64, p64, m32, p32⟩
  · exact fun nonzero noWrap => ⟨fun above => SmallPowers.completed2_answer hne s (above64 nonzero noWrap above),
      fun above => SmallPowers.completed2_answer hne s (above32 nonzero noWrap above)⟩

theorem not_ambiguous_of_safe {F : Format} {q : Int} (lower : F.safeLo ≤ q) (upper : q ≤ F.safeHi) (p : Value128) :
    ambiguous F q p = false := by
  simp only [ambiguous, Bool.and_eq_false_iff, Bool.or_eq_false_iff, decide_eq_false_iff_not]
  omega

/-- In the safe window CORE never declines (R157). -/
theorem elCore_ne_decline_of_safe {F : Format} {q : Int} (lower : F.safeLo ≤ q) (upper : q ≤ F.safeHi) (w : Nat) :
    elCore F w q ≠ .decline := by
  obtain ⟨am, -, value⟩ | ⟨-, amb, -⟩ | ⟨-, -, value⟩ := elCore_cases F w q
  · simp [value]
  · simp [not_ambiguous_of_safe lower upper] at amb
  · simp [value]

/-- In the safe window, without truncation, the power2 register does not hold the decline. -/
theorem power2_of_safe {F : Format} (layout : Layout F) {s : State} {rd rd2 rs1 rs2 rs3 : Reg} (hne : rd ≠ rd2)
    (untruncated : (s.reg rs3).getLsbD 0 = false) (lower : -27 ≤ (s.reg rs2).toInt) (upper : (s.reg rs2).toInt ≤ 55) :
    (s.completed2 rd rd2 (elAnswer F rs1 rs2 rs3 s).mantissaWord (elAnswer F rs1 rs2 rs3 s).power2Word).reg rd2 ≠
      0xFFFFFFFFFFFFFFFF := by
  cases answer : elAnswer F rs1 rs2 rs3 s with
  | decline =>
    rw [SmallPowers.elAnswer_of_not_truncated F untruncated] at answer
    exact absurd answer (elCore_ne_decline_of_safe (layout.safeLo_eq ▸ lower) (layout.safeHi_eq ▸ upper) _)
  | value am =>
    rw [(SmallPowers.completed2_answer hne s rfl).2]
    exact power2Word_ne_of_form layout (elAnswer_form layout answer)

/-- Settles O36: in the safe window stage 5 never declines, and no value has the decline's power2. -/
theorem elDecidesInTheSafeWindow : Obligations.ElDecidesInTheSafeWindow := by
  intro s rd rd2 rs1 rs2 rs3 hne untruncated lower upper
  exact ⟨⟨_, SmallPowers.exec_el64_of_ne hne .., power2_of_safe layout_binary64 hne untruncated lower upper⟩,
    _, SmallPowers.exec_el32_of_ne hne .., power2_of_safe layout_binary32 hne untruncated lower upper⟩

/-! ### The pattern of ASM (R192 to R195) -/

section
variable {F : Format} {n f : Nat} {p2 : Int}

theorem Layout.two_pow_width (layout : Layout F) : 2 ^ (F.width - 1) = (F.inf + 1) * 2 ^ F.eb := by
  have bits := layout.exponent_bits
  rw [layout.inf_eq, ← pow_add, Nat.sub_add_cancel (by omega)]

/-- The exponent and the fraction field lie below the sign. -/
theorem magnitude_lt (layout : Layout F) (hn : n ≤ F.inf) (hf : f < 2 ^ F.eb) :
    n * 2 ^ F.eb + f < 2 ^ (F.width - 1) := by
  calc n * 2 ^ F.eb + f < n * 2 ^ F.eb + 2 ^ F.eb := Nat.add_lt_add_left hf _
    _ = (n + 1) * 2 ^ F.eb := (Nat.succ_mul ..).symm
    _ ≤ (F.inf + 1) * 2 ^ F.eb := Nat.mul_le_mul_right _ (by omega)
    _ = 2 ^ (F.width - 1) := layout.two_pow_width.symm

/-- A pattern as one number: the exponent field above the fraction field, below the sign. -/
theorem pattern_fields (layout : Layout F) (sign : Bool) (hn : n ≤ F.inf) (hf : f < 2 ^ F.eb) :
    ieeeExponent F (sign.toNat * 2 ^ (F.width - 1) + n * 2 ^ F.eb + f) = n ∧
      ieeeFraction F (sign.toNat * 2 ^ (F.width - 1) + n * 2 ^ F.eb + f) = f := by
  have positive : 0 < 2 ^ F.eb := by positivity
  have eq : sign.toNat * 2 ^ (F.width - 1) + n * 2 ^ F.eb + f =
      2 ^ F.eb * ((F.inf + 1) * sign.toNat + n) + f := by
    rw [layout.two_pow_width]
    ring
  rw [ieeeExponent, ieeeFraction, eq, Nat.mul_add_div positive, Nat.div_eq_of_lt hf, add_zero, Nat.mul_add_mod,
    Nat.mod_eq_of_lt (by omega : n < F.inf + 1), Nat.mul_add_mod, Nat.mod_eq_of_lt hf]
  exact ⟨rfl, rfl⟩

/-- OR of fields that do not overlap is their sum. -/
theorem shiftLeft_or_eq_add {a b k : Nat} (h : b < 2 ^ k) : a <<< k ||| b = a * 2 ^ k + b := by
  rw [← Nat.shiftLeft_add_eq_or_of_lt h, Nat.shiftLeft_eq]

/-- What ASM packs with OR are the three fields side by side (R192 to R194). -/
theorem packIeee_eq_packedFields (layout : Layout F) (nonneg : 0 ≤ p2) (le : p2 ≤ F.inf) (m : Nat) (sign : Bool) :
    packIeee F m p2 sign = packedFields F.eb F.width F.inf m p2 sign := by
  have positive : 0 < 2 ^ F.eb := by positivity
  have fraction : m % 2 ^ F.eb < 2 ^ F.eb := Nat.mod_lt _ positive
  rw [packIeee, packedFields]
  split
  · rename_i infinite
    have magnitude := magnitude_lt layout (n := F.inf) le_rfl positive
    rw [add_zero, ← Nat.shiftLeft_eq] at magnitude
    rw [shiftLeft_or_eq_add magnitude, Nat.shiftLeft_eq, infinite, Int.toNat_natCast, add_zero]
  · have magnitude := magnitude_lt layout (n := p2.toNat) (by omega) fraction
    rw [← shiftLeft_or_eq_add fraction] at magnitude
    rw [Nat.or_assoc, shiftLeft_or_eq_add magnitude, shiftLeft_or_eq_add fraction, add_assoc]

/-- A pattern of ASM fits in the register (R196, R197). -/
theorem packedFields_lt (layout : Layout F) (nonneg : 0 ≤ p2) (le : p2 ≤ F.inf) (m : Nat) (sign : Bool) :
    packedFields F.eb F.width F.inf m p2 sign < 2 ^ 64 := by
  have positive : 0 < 2 ^ F.eb := by positivity
  have fraction : (if p2 = F.inf then 0 else m % 2 ^ F.eb) < 2 ^ F.eb := by
    split
    · exact positive
    · exact Nat.mod_lt _ positive
  have magnitude := magnitude_lt layout (n := p2.toNat) (by omega) fraction
  have width := layout.width_le
  have half : 2 ^ (F.width - 1) ≤ 2 ^ 63 := Nat.pow_le_pow_right two_pos (by omega)
  have bit := Nat.mul_le_mul_right (2 ^ (F.width - 1)) sign.toNat_le
  rw [packedFields]
  omega

/-- Where the exponent field is `INF` the fraction field is 0, so no pattern of ASM is a NaN (R199). -/
theorem ieeeDatum_packedFields_ne_nan (layout : Layout F) (nonneg : 0 ≤ p2) (le : p2 ≤ F.inf) (m : Nat) (sign : Bool) :
    ieeeDatum F (packedFields F.eb F.width F.inf m p2 sign) ≠ .nan := by
  have positive : 0 < 2 ^ F.eb := by positivity
  rw [packedFields]
  split
  · obtain ⟨-, fraction⟩ := pattern_fields layout sign (n := p2.toNat) (by omega) positive
    rw [ieeeDatum, fraction]
    split
    · exact nofun
    · split <;> exact nofun
  · obtain ⟨exponent, -⟩ := pattern_fields layout sign (n := p2.toNat) (by omega) (Nat.mod_lt m positive)
    rw [ieeeDatum, exponent, if_neg (by omega)]
    split <;> exact nofun

end

/-! ### ASM on an answer of EL (R167, R191, R199) -/

/-- Every value of EL is an operand that ASM accepts (R167). -/
theorem AmForm.asmAccepts {F : Format} {am : AdjustedMantissa} (form : AmForm F am) :
    AsmAccepts F.eb F.inf am.mantissa am.power2 := by
  have double : 2 ^ (F.eb + 1) = 2 * 2 ^ F.eb := pow_succ' ..
  have positive : 0 < 2 ^ F.eb := by positivity
  rw [AsmAccepts]
  obtain ⟨⟨m, p⟩ | ⟨mLo, mHi, p⟩ | ⟨mLo, mHi, pLo, pHi⟩ | ⟨m, p⟩ | ⟨m, p⟩, nonneg⟩ := form <;> omega

theorem asmCheck_eq_accept {F : Format} {m : Nat} {p2 : Int} (accepts : AsmAccepts F.eb F.inf m p2) :
    asmCheck F m p2 = .accept := by
  rw [AsmAccepts] at accepts
  obtain ⟨-, badPower2⟩ | ⟨-, nonneg, lt, badMantissa⟩ | ⟨accept, -⟩ := asmCheck_cases F m p2
  · omega
  · omega
  · exact accept

section
variable {F : Format} {t : State} {rs1 rs2 : Reg}

/-- ASM on the registers of a value of EL completes with a pattern that is no NaN. -/
theorem runAsm_of_form (layout : Layout F) {am : AdjustedMantissa} (form : AmForm F am)
    (mantissa : t.reg rs1 = BitVec.ofNat 64 am.mantissa) (power2 : t.reg rs2 = BitVec.ofInt 64 am.power2)
    (cw : CommandWord) (r sg : Reg) :
    ∃ u, runAsm F cw r rs1 rs2 sg t = .next u ∧ CompletedFrame [r] t u ∧ ieeeDatum F (u.reg r).toNat ≠ .nan := by
  have m : readU64 t rs1 = am.mantissa := by rw [readU64, mantissa, form.toNat_mantissa layout]
  have p : readS64 t rs2 = am.power2 := by rw [readS64, power2, form.toInt_power2 layout]
  have accept := asmCheck_eq_accept form.asmAccepts
  obtain ⟨value, frame⟩ := completed1_frame t r (ofUnsigned (packIeee F am.mantissa am.power2 (readBit0 t sg)))
  refine ⟨_, by rw [runAsm, m, p, accept]; rfl, frame, ?_⟩
  rw [value, packIeee_eq_packedFields layout form.2 form.power2_le,
    BitPrimitives.ofUnsigned_toNat (packedFields_lt layout form.2 form.power2_le ..)]
  exact ieeeDatum_packedFields_ne_nan layout form.2 form.power2_le _ _

/-- ASM on a power2 register that holds −1 takes AM_DOMAIN (R191). -/
theorem runAsm_of_decline (F : Format) (power2 : t.reg rs2 = 0xFFFFFFFFFFFFFFFF) (cw : CommandWord) (r rs1 sg : Reg) :
    runAsm F cw r rs1 rs2 sg t = .next (t.raised cw .amDomain 0xFFFFFFFFFFFFFFFF) := by
  have p : readS64 t rs2 = -1 := by
    rw [readS64, power2]
    decide
  rw [runAsm, p, asmCheck, if_pos (.inl (by decide)), power2]
  rfl

/-- ASM after EL, in either format: on the registers of an answer it completes without a NaN, or takes the decline's
fault. -/
theorem runAsm_of_elPair (layout : Layout F) {a : Approximation} (forms : ∀ am, a = .value am → AmForm F am)
    (mantissa : t.reg rs1 = BitVec.ofNat 64 (elPair a).1) (power2 : t.reg rs2 = BitVec.ofInt 64 (elPair a).2)
    (cw : CommandWord) (r sg : Reg) :
    ∃ u, runAsm F cw r rs1 rs2 sg t = .next u ∧
      (t.reg rs2 ≠ 0xFFFFFFFFFFFFFFFF → CompletedFrame [r] t u ∧ ieeeDatum F (u.reg r).toNat ≠ .nan) ∧
      (t.reg rs2 = 0xFFFFFFFFFFFFFFFF → FaultTaken cw .amDomain 0xFFFFFFFFFFFFFFFF t u) := by
  cases a with
  | decline =>
    have minusOne : t.reg rs2 = 0xFFFFFFFFFFFFFFFF := power2
    exact ⟨_, runAsm_of_decline F minusOne cw r rs1 sg, absurd minusOne, fun _ => raised_faultTaken ..⟩
  | value am =>
    have form := forms am rfl
    obtain ⟨u, next, completes⟩ := runAsm_of_form layout form mantissa power2 cw r sg
    exact ⟨u, next, fun _ => completes,
      fun minusOne => absurd (power2.symm.trans minusOne) (power2Word_ne_of_form layout form)⟩

end

/-- Settles O42: ASM64 accepts the forms of R166 that are no decline, and a decline's power2 is out of its range. -/
theorem asm64AcceptsEveryEl64Answer : Obligations.Asm64AcceptsEveryEl64Answer := by
  intro s rd rd2 rs1 rs2 rs3 r sg hne
  obtain ⟨-, mantissa, power2⟩ := completed2_elPair hne s (elAnswer binary64 rs1 rs2 rs3 s)
  obtain ⟨u, next, clauses⟩ := runAsm_of_elPair layout_binary64 (fun _ => elAnswer_form layout_binary64) mantissa power2
    (encode (.asm64 r rd rd2 sg)) r sg
  exact ⟨_, u, SmallPowers.exec_el64_of_ne hne .., next, clauses⟩

/-- Settles O43: the same argument under the binary32 column. -/
theorem asm32AcceptsEveryEl32Answer : Obligations.Asm32AcceptsEveryEl32Answer := by
  intro s rd rd2 rs1 rs2 rs3 r sg hne
  obtain ⟨-, mantissa, power2⟩ := completed2_elPair hne s (elAnswer binary32 rs1 rs2 rs3 s)
  obtain ⟨u, next, clauses⟩ := runAsm_of_elPair layout_binary32 (fun _ => elAnswer_form layout_binary32) mantissa power2
    (encode (.asm32 r rd rd2 sg)) r sg
  exact ⟨_, u, SmallPowers.exec_el32_of_ne hne .., next, clauses⟩

end Sys2Proof.EiselLemire

/-! PROOFS. ASM64 and ASM32 by themselves (spec/43_assembler.md): for every operand what the command packs or which fault it
takes (R191, R196, R197), and what the pattern stands for when read by the IEEE-754 layout (R192 to R195, R198). Both formats
share each argument through `EiselLemire.Layout`; the pattern as one number stands there too. -/

namespace Sys2Proof.Assembler

open Sys2Proof.Machine Sys2Proof.Claims Sys2Proof.EiselLemire

/-! ### The verdict on the operands (R191) -/

theorem power2_bounds_of_asmAccepts {eb inf m : Nat} {p2 : Int} (accepts : AsmAccepts eb inf m p2) :
    0 ≤ p2 ∧ p2 ≤ inf := by
  obtain infinite | ⟨nonneg, lt, -⟩ := accepts <;> omega

theorem asmCheck_eq_badMantissa {F : Format} {m : Nat} {p2 : Int} (inside : 0 ≤ p2 ∧ p2 < F.inf)
    (outside : 2 ^ (F.eb + 1) ≤ m ∨ (p2 = 0 ∧ 2 ^ F.eb ≤ m)) : asmCheck F m p2 = .badMantissa := by
  obtain ⟨-, badPower2⟩ | ⟨badMantissa, -⟩ | ⟨-, -, -, domain⟩ := asmCheck_cases F m p2
  · omega
  · exact badMantissa
  · omega

/-! ### The outcomes of ASM in either format (R196, R197) -/

section
variable {F : Format} {s : State} {rs1 rs2 : Reg}

/-- On what it accepts, ASM completes with the three fields, zero-extended. -/
theorem runAsm_packs (layout : Layout F) (accepts : AsmAccepts F.eb F.inf (s.reg rs1).toNat (s.reg rs2).toInt)
    (cw : CommandWord) (rd rs3 : Reg) :
    ∃ t, runAsm F cw rd rs1 rs2 rs3 s = .next t ∧ CompletedFrame [rd] s t ∧
      (t.reg rd).toNat =
        packedFields F.eb F.width F.inf (s.reg rs1).toNat (s.reg rs2).toInt ((s.reg rs3).getLsbD 0) := by
  obtain ⟨nonneg, le⟩ := power2_bounds_of_asmAccepts accepts
  obtain ⟨value, frame⟩ := completed1_frame s rd
    (ofUnsigned (packIeee F (s.reg rs1).toNat (s.reg rs2).toInt ((s.reg rs3).getLsbD 0)))
  refine ⟨_, by rw [runAsm, readU64, readS64, asmCheck_eq_accept accepts]; rfl, frame, ?_⟩
  rw [value, packIeee_eq_packedFields layout nonneg le,
    BitPrimitives.ofUnsigned_toNat (packedFields_lt layout nonneg le ..)]

theorem runAsm_of_power2_outside (outside : (s.reg rs2).toInt < 0 ∨ (F.inf : Int) < (s.reg rs2).toInt)
    (cw : CommandWord) (rd rs1 rs3 : Reg) :
    runAsm F cw rd rs1 rs2 rs3 s = .next (s.raised cw .amDomain (s.reg rs2)) := by
  have verdict : asmCheck F (s.reg rs1).toNat (s.reg rs2).toInt = .badPower2 := if_pos outside
  rw [runAsm, readU64, readS64, verdict]
  rfl

theorem runAsm_of_mantissa_outside (inside : 0 ≤ (s.reg rs2).toInt ∧ (s.reg rs2).toInt < F.inf)
    (outside : 2 ^ (F.eb + 1) ≤ (s.reg rs1).toNat ∨ ((s.reg rs2).toInt = 0 ∧ 2 ^ F.eb ≤ (s.reg rs1).toNat))
    (cw : CommandWord) (rd rs3 : Reg) :
    runAsm F cw rd rs1 rs2 rs3 s = .next (s.raised cw .amDomain (s.reg rs1)) := by
  rw [runAsm, readU64, readS64, asmCheck_eq_badMantissa inside outside]
  rfl

end

/-- Settles O39: the three outcomes of ASM, under the binary64 column. -/
theorem asm64PacksOrFaults : Obligations.Asm64PacksOrFaults :=
  ⟨fun _ rd _ _ rs3 accepts => runAsm_packs layout_binary64 accepts _ rd rs3,
    fun _ _ rd rs1 _ rs3 issues =>
      ⟨fun outside => PowerTables.step_takes_fault_of_exec issues
        (runAsm_of_power2_outside (F := binary64) outside _ rd rs1 rs3),
      fun inside outside => PowerTables.step_takes_fault_of_exec issues
        (runAsm_of_mantissa_outside (F := binary64) inside outside _ rd rs3)⟩⟩

/-- Settles O40: the three outcomes of ASM, under the binary32 column. -/
theorem asm32PacksOrFaults : Obligations.Asm32PacksOrFaults :=
  ⟨fun _ rd _ _ rs3 accepts => runAsm_packs layout_binary32 accepts _ rd rs3,
    fun _ _ rd rs1 _ rs3 issues =>
      ⟨fun outside => PowerTables.step_takes_fault_of_exec issues
        (runAsm_of_power2_outside (F := binary32) outside _ rd rs1 rs3),
      fun inside outside => PowerTables.step_takes_fault_of_exec issues
        (runAsm_of_mantissa_outside (F := binary32) inside outside _ rd rs3)⟩⟩

/-! ### The pattern read back (R192 to R195, R198) -/

section
variable {F : Format} {n f m : Nat} {p2 : Int}

/-- The top bit of a pattern is its sign. -/
theorem ieeeSign_pattern (layout : Layout F) (sign : Bool) (hn : n ≤ F.inf) (hf : f < 2 ^ F.eb) :
    ieeeSign F (sign.toNat * 2 ^ (F.width - 1) + n * 2 ^ F.eb + f) = sign := by
  have positive : 0 < 2 ^ (F.width - 1) := by positivity
  rw [ieeeSign, add_assoc, mul_comm, Nat.mul_add_div positive, Nat.div_eq_of_lt (magnitude_lt layout hn hf)]
  cases sign <;> rfl

/-- Reading a pattern of three fields is the case distinction of R195 on the fields themselves. -/
theorem ieeeDatum_pattern (layout : Layout F) (sign : Bool) (hn : n ≤ F.inf) (hf : f < 2 ^ F.eb) :
    ieeeDatum F (sign.toNat * 2 ^ (F.width - 1) + n * 2 ^ F.eb + f) =
      if n = F.inf then if f = 0 then .infinity sign else .nan
      else if n = 0 then .finite sign f (1 + F.minExp - F.eb)
      else .finite sign (2 ^ F.eb + f) (n + F.minExp - F.eb) := by
  obtain ⟨exponent, fraction⟩ := pattern_fields layout sign hn hf
  rw [ieeeDatum, exponent, fraction, ieeeSign_pattern layout sign hn hf]

/-- R194: `power2 = INF` gives the signed infinity, whatever the mantissa. -/
theorem ieeeDatum_packedFields_of_inf (layout : Layout F) (infinite : p2 = F.inf) (m : Nat) (sign : Bool) :
    ieeeDatum F (packedFields F.eb F.width F.inf m p2 sign) = .infinity sign := by
  have field : p2.toNat = F.inf := by omega
  rw [packedFields, if_pos infinite, field, ieeeDatum_pattern layout sign le_rfl (by positivity), if_pos rfl, if_pos rfl]

/-- R192, R198: `power2 = 0` gives the signed zero or subnormal, whose fraction is the whole mantissa. -/
theorem ieeeDatum_packedFields_of_zero (layout : Layout F) (zero : p2 = 0) (hm : m < 2 ^ F.eb) (sign : Bool) :
    ieeeDatum F (packedFields F.eb F.width F.inf m p2 sign) = .finite sign m (1 + F.minExp - F.eb) := by
  have inf_pos := layout.inf_bounds.1
  rw [packedFields, if_neg (by omega), Nat.mod_eq_of_lt hm, ieeeDatum_pattern layout sign (by omega) hm,
    if_neg (by omega), if_pos (by omega)]

/-- R193: any other `power2` gives the normal value; the implicit bit is restored, whether or not the mantissa held it. -/
theorem ieeeDatum_packedFields_of_normal (layout : Layout F) (normal : 1 ≤ p2 ∧ p2 < F.inf) (m : Nat) (sign : Bool) :
    ieeeDatum F (packedFields F.eb F.width F.inf m p2 sign) =
      .finite sign (2 ^ F.eb + m % 2 ^ F.eb) (p2 + F.minExp - F.eb) := by
  have fraction : m % 2 ^ F.eb < 2 ^ F.eb := Nat.mod_lt _ (by positivity)
  have field : (p2.toNat : Int) = p2 := Int.toNat_of_nonneg (by omega)
  rw [packedFields, if_neg (by omega), ieeeDatum_pattern layout sign (by omega) fraction, if_neg (by omega),
    if_neg (by omega), field]

/-- The three cases for accepted operands; `offset` is the exponent bias plus the fraction's width. -/
theorem ieeeDatum_packedFields_of_accepts (layout : Layout F) {offset : Int} (bias : F.minExp - F.eb = -offset)
    (accepts : AsmAccepts F.eb F.inf m p2) (sign : Bool) :
    (p2 = 0 → ieeeDatum F (packedFields F.eb F.width F.inf m p2 sign) = .finite sign m (1 - offset)) ∧
      (1 ≤ p2 ∧ p2 < F.inf → ieeeDatum F (packedFields F.eb F.width F.inf m p2 sign) =
        .finite sign (2 ^ F.eb + m % 2 ^ F.eb) (p2 - offset)) ∧
      (p2 = F.inf → ieeeDatum F (packedFields F.eb F.width F.inf m p2 sign) = .infinity sign) := by
  have exponent (n : Int) : n + F.minExp - F.eb = n - offset := by omega
  refine ⟨fun zero => ?_, fun normal => ?_, fun infinite => ieeeDatum_packedFields_of_inf layout infinite m sign⟩
  · obtain infinite | ⟨-, -, -, subnormal⟩ := accepts
    · have inf_pos := layout.inf_bounds.1
      omega
    · rw [ieeeDatum_packedFields_of_zero layout zero (subnormal zero), exponent]
  · rw [ieeeDatum_packedFields_of_normal layout normal, exponent]

end

/-- Settles O41: the state ASM64 answers holds the pattern of O39. -/
theorem asm64PatternsReadBack : Obligations.Asm64PatternsReadBack := by
  rintro s t rd rs1 rs2 rs3 m p2 sign rfl rfl rfl accepts answers
  obtain ⟨u, next, -, pattern⟩ := asm64PacksOrFaults.1 s rd rs1 rs2 rs3 accepts
  obtain rfl : u = t := Host.Outcome.next.inj (next.symm.trans answers)
  rw [pattern]
  exact ieeeDatum_packedFields_of_accepts layout_binary64 (offset := 1075) rfl accepts _

/-- Settles O51: ASM32 completes with the pattern of O40. -/
theorem asm32PatternsReadBack : Obligations.Asm32PatternsReadBack := by
  rintro s rd rs1 rs2 rs3 m p2 sign rfl rfl rfl accepts
  obtain ⟨u, next, -, pattern⟩ := asm32PacksOrFaults.1 s rd rs1 rs2 rs3 accepts
  refine ⟨u, next, ?_⟩
  rw [pattern]
  exact ieeeDatum_packedFields_of_accepts layout_binary32 (offset := 150) rfl accepts _

end Sys2Proof.Assembler

/-! PROOFS. The exceptions of spec/60_exceptions.md. The parts: when ASM rejects an operand; everything a command can answer,
with the operand that explains a fault; everything a host operation does to the status registers; FAULTED until `Reset()`;
the invariant of the status registers. -/

namespace Sys2Proof.Exceptions

open Sys2Proof.Machine Sys2Proof.Claims

/-! ### The operands ASM rejects (R191) -/

theorem power2_outside_of_badPower2 {F : Format} {m : Nat} {p2 : Int} (verdict : asmCheck F m p2 = .badPower2) :
    p2 < 0 ∨ (F.inf : Int) < p2 := by
  simpa [verdict] using asmCheck_cases F m p2

theorem two_pow_le_of_badMantissa {F : Format} {m : Nat} {p2 : Int} (verdict : asmCheck F m p2 = .badMantissa) :
    2 ^ F.eb ≤ m := by
  obtain ⟨-, -, normal | ⟨-, subnormal⟩⟩ : 0 ≤ p2 ∧ p2 < F.inf ∧ (2 ^ (F.eb + 1) ≤ m ∨ (p2 = 0 ∧ 2 ^ F.eb ≤ m)) := by
    simpa [verdict] using asmCheck_cases F m p2
  · exact (Nat.pow_le_pow_right (by norm_num) F.eb.le_succ).trans normal
  · exact subnormal

/-! ### Everything a command can answer (R67, R212, R214, R216) -/

/-- What a command may answer: a completion with its frame, ILLEGAL_COMMAND for equal destinations, or a fault of its own
with a source operand that explains it. -/
inductive Answer (i : Instr) (s : State) : Result → Prop
  | completes {t : State} (frame : CompletedFrame i.dests s t) : Answer i s (.next t)
  | illegal (illFormed : i.wellFormed = false) : Answer i s (.next (s.raised (encode i) .illegalCommand 0))
  | faults {cause : Cause} {r : Reg} (wellFormed : i.wellFormed = true) (own : cause ∈ operandCauses i.mnemonic)
      (source : r ∈ i.sources) (explained : FaultExplained (encode i) (s.reg r) cause) :
      Answer i s (.next (s.raised (encode i) cause (s.reg r)))

section
variable {i : Instr} {s : State} {rd rd2 rs1 rs2 rs3 : Reg}

theorem answer_complete1 (dests : i.dests = [rd]) (v : Word) : Answer i s (complete1 rd v s) :=
  .completes (dests ▸ (completed1_frame s rd v).2)

theorem answer_complete2 (dests : i.dests = [rd, rd2]) (hne : rd ≠ rd2) (v v2 : Word) :
    Answer i s (complete2 rd rd2 v v2 s) :=
  .completes (dests ▸ (completed2_frame s v v2 hne).2.2)

/-- A command that is ASM in either format: it packs, or a bad power2 or a bad mantissa explains AM_DOMAIN. -/
theorem answer_runAsm {F : Format} (wellFormed : i.wellFormed = true) (dests : i.dests = [rd])
    (sources : i.sources = [rs1, rs2, rs3]) (own : .amDomain ∈ operandCauses i.mnemonic)
    (explained : ∀ v : Word, (v.toInt < 0 ∨ (F.inf : Int) < v.toInt ∨ 2 ^ F.eb ≤ v.toNat) →
      FaultExplained (encode i) v .amDomain) :
    Answer i s (runAsm F (encode i) rd rs1 rs2 rs3 s) := by
  obtain ⟨verdict, eq⟩ | ⟨verdict, eq⟩ | ⟨-, eq⟩ := runAsm_cases F (encode i) rd rs1 rs2 rs3 s <;> rw [eq]
  · have outside := power2_outside_of_badPower2 verdict
    exact .faults wellFormed own (by simp [sources]) (explained _ (outside.imp_right .inl))
  · have outside := two_pow_le_of_badMantissa verdict
    exact .faults wellFormed own (by simp [sources]) (explained _ (.inr (.inr outside)))
  · exact answer_complete1 dests _

end

/-- A well-formed command completes unless one of its operands is outside the domain that its cause names. -/
theorem answer_exec_of_wellFormed {i : Instr} (wf : i.wellFormed = true) (s : State) : Answer i s (exec i s) := by
  have decodes := OpcodeMap.decodeAfterEncode i wf
  cases i with
  | lzc64 rd rs1 => exact answer_complete1 rfl _
  | isdig8 rd rs1 => exact answer_complete1 rfl _
  | isspace rd rs1 => exact answer_complete1 rfl _
  | mul128 rd rd2 rs1 rs2 =>
    have hne : rd ≠ rd2 := bne_iff_ne.1 wf
    rw [BitPrimitives.exec_mul128_of_ne hne]
    exact answer_complete2 rfl hne ..
  | isdigit rd rd2 rs1 =>
    have hne : rd ≠ rd2 := bne_iff_ne.1 wf
    rw [BitPrimitives.exec_isdigit_of_ne hne]
    exact answer_complete2 rfl hne ..
  | el64 rd rd2 rs1 rs2 rs3 =>
    have hne : rd ≠ rd2 := bne_iff_ne.1 wf
    rw [SmallPowers.exec_el64_of_ne hne]
    exact answer_complete2 rfl hne ..
  | el32 rd rd2 rs1 rs2 rs3 =>
    have hne : rd ≠ rd2 := bne_iff_ne.1 wf
    rw [SmallPowers.exec_el32_of_ne hne]
    exact answer_complete2 rfl hne ..
  | dec8 rd rs1 =>
    by_cases digits : AllDigits (s.reg rs1)
    · rw [BitPrimitives.exec_dec8_of_digits digits]
      exact answer_complete1 rfl _
    · rw [BitPrimitives.exec_dec8_of_not_digits digits]
      exact .faults wf (List.mem_singleton_self _) (List.mem_singleton_self _) ⟨⟨rd, rs1, decodes⟩, digits⟩
  | p5w rd rs1 =>
    obtain inRom | beyond := le_or_gt (s.reg rs1).toNat 1301
    · rw [PowerTables.exec_p5w_of_le inRom]
      exact answer_complete1 rfl _
    · rw [PowerTables.exec_p5w_of_lt beyond]
      exact .faults wf (List.mem_singleton_self _) (List.mem_singleton_self _)
        (.inl ⟨⟨rd, rs1, decodes⟩, beyond⟩)
  | p5q rd rd2 rs1 =>
    have hne : rd ≠ rd2 := bne_iff_ne.1 wf
    by_cases outside : OutsideTable (s.reg rs1)
    · rw [PowerTables.exec_p5q_of_outside hne outside]
      exact .faults wf (List.mem_singleton_self _) (List.mem_singleton_self _)
        (.inr ⟨⟨rd, rd2, rs1, decodes⟩, outside⟩)
    · rw [PowerTables.exec_p5q_of_inTable hne outside]
      exact answer_complete2 rfl hne ..
  | bexp rd rs1 =>
    by_cases outside : OutsideTable (s.reg rs1)
    · rw [PowerTables.exec_bexp_of_outside outside]
      exact .faults wf (List.mem_singleton_self _) (List.mem_singleton_self _) ⟨⟨rd, rs1, decodes⟩, outside⟩
    · rw [PowerTables.exec_bexp_of_inTable outside]
      exact answer_complete1 rfl _
  | asm64 rd rs1 rs2 rs3 =>
    exact answer_runAsm (F := binary64) wf rfl rfl (List.mem_singleton_self _)
      fun _ outside => .inl ⟨⟨rd, rs1, rs2, rs3, decodes⟩, outside⟩
  | asm32 rd rs1 rs2 rs3 =>
    exact answer_runAsm (F := binary32) wf rfl rfl (List.mem_singleton_self _)
      fun _ outside => .inr ⟨⟨rd, rs1, rs2, rs3, decodes⟩, outside⟩

/-- ILLEGAL_COMMAND comes before any operand fault (R216). -/
theorem answer_exec (i : Instr) (s : State) : Answer i s (exec i s) := by
  cases wf : i.wellFormed with
  | true => exact answer_exec_of_wellFormed wf s
  | false =>
    rw [OpcodeMap.exec_of_illFormed wf]
    exact .illegal wf

/-- Settles O44: the three answers of a command, each fault leaving what R212 says. -/
theorem commandsCompleteOrTakeTheirOwnFaults : Obligations.CommandsCompleteOrTakeTheirOwnFaults := by
  intro i s t run
  have answer := run ▸ answer_exec i s
  cases answer with
  | completes frame => exact .inl frame
  | illegal illFormed => exact .inr ⟨_, _, .inl ⟨illFormed, rfl, rfl⟩, raised_faultTaken ..⟩
  | faults wf own source _ => exact .inr ⟨_, _, .inr ⟨wf, own, _, source, rfl⟩, raised_faultTaken ..⟩

/-! ### What a host operation does to the status registers (R30, R213) -/

/-- MODE and the status registers of `t` are those of `s`. -/
def SameStatus (s t : State) : Prop := t.mode = s.mode ∧ t.st = s.st ∧ t.fcw = s.fcw ∧ t.finfo = s.finfo

theorem sameStatus_refl (s : State) : SameStatus s s := ⟨rfl, rfl, rfl, rfl⟩

theorem sameStatus_of_completedFrame {dests : List Reg} {s t : State} (frame : CompletedFrame dests s t) :
    SameStatus s t := by
  obtain ⟨-, ⟨st, fcw, finfo, mode, -⟩, -⟩ := frame
  exact ⟨mode, st, fcw, finfo⟩

/-- An operation keeps the status registers and `pc`, or it is `Reset()`, or it presents a word to a block in RUN. -/
theorem perform_cases {op : HostOp} {s t : State} (performs : perform op s = .next t) :
    (SameStatus s t ∧ t.pc = s.pc) ∨ (op = .reset ∧ t = s.resetBlock) ∨
      ∃ cw, op = .issue cw ∧ s.mode = .run ∧ runWord cw s = .next t := by
  cases op with
  | write i v => cases performs; exact .inl ⟨⟨rfl, rfl, rfl, rfl⟩, rfl⟩
  | read i => cases performs; exact .inl ⟨⟨rfl, rfl, rfl, rfl⟩, rfl⟩
  | readStatus => cases performs; exact .inl ⟨⟨rfl, rfl, rfl, rfl⟩, rfl⟩
  | reset => cases performs; exact .inr (.inl ⟨rfl, rfl⟩)
  | issue cw =>
    obtain ⟨run, issued⟩ | ⟨-, ignored⟩ := issue_cases cw s
    · exact .inr (.inr ⟨cw, rfl, run, issued.symm.trans performs⟩)
    · obtain rfl := Host.Outcome.next.inj (ignored.symm.trans performs)
      exact .inl ⟨sameStatus_refl s, rfl⟩

theorem issue_of_faulted {s : State} (faulted : s.mode = .faulted) (cw : CommandWord) : issue cw s = .next s := by
  rw [issue, faulted]

/-- Settles O8: in FAULTED no word runs, so any operation but `Reset()` keeps the status registers and `pc`. -/
theorem faultedIgnoresCommandsUntilReset : Obligations.FaultedIgnoresCommandsUntilReset := by
  refine ⟨fun s cw faulted => issue_of_faulted faulted cw, fun s t op faulted steps notReset => ?_,
    fun s _ => ⟨s.resetBlock, rfl, rfl⟩, fun s n faulted => by simp [programEnded, faulted]⟩
  obtain ⟨⟨mode, st, fcw, finfo⟩, pc⟩ | ⟨reset, -⟩ | ⟨cw, -, run, -⟩ :=
    perform_cases ((StateRules.step_pending s op).symm.trans steps)
  · exact ⟨mode.trans faulted, st, fcw, finfo, pc⟩
  · exact absurd reset notReset
  · rw [faulted] at run
    contradiction

/-! ### The status registers stay truthful (R211 to R213) -/

theorem statusTruthful_of_sameStatus {s t : State} (truthful : StatusTruthful s) (same : SameStatus s t) :
    StatusTruthful t := by
  obtain ⟨mode, st, fcw, finfo⟩ := same
  rwa [StatusTruthful, mode, st, fcw, finfo]

/-- A fault that its word and operand explain is truthful, whatever the state before. -/
theorem statusTruthful_raised {cw : CommandWord} {cause : Cause} {info : Word} (explained : FaultExplained cw info cause)
    (s : State) : StatusTruthful (s.raised cw cause info) :=
  .inr ⟨rfl, cause, rfl, explained⟩

/-- ILLEGAL_COMMAND is explained by a word that decodes to no command. -/
theorem faultExplained_illegalCommand {cw : CommandWord} (illegal : ∀ i, decode cw ≠ .ok i) :
    FaultExplained cw 0 .illegalCommand := by
  cases decoded : decode cw with
  | ok i => exact absurd decoded (illegal i)
  | error e => exact ⟨⟨e, decoded⟩, rfl⟩

theorem exec_keeps_statusTruthful {i : Instr} {s t : State} (truthful : StatusTruthful s) (run : exec i s = .next t) :
    StatusTruthful t := by
  have answer := run ▸ answer_exec i s
  cases answer with
  | completes frame => exact statusTruthful_of_sameStatus truthful (sameStatus_of_completedFrame frame)
  | illegal illFormed =>
    exact statusTruthful_raised (faultExplained_illegalCommand (OpcodeMap.decode_encode_ne_ok illFormed)) s
  | faults _ _ _ explained => exact statusTruthful_raised explained s

theorem runWord_keeps_statusTruthful {cw : CommandWord} {s t : State} (truthful : StatusTruthful s)
    (run : runWord cw s = .next t) : StatusTruthful t := by
  obtain ⟨i, -, executes⟩ | ⟨e, decodes, faults⟩ := runWord_cases cw s
  · exact exec_keeps_statusTruthful truthful (executes.symm.trans run)
  · obtain rfl := Host.Outcome.next.inj (faults.symm.trans run)
    exact statusTruthful_raised (cause := .illegalCommand) ⟨⟨e, decodes⟩, rfl⟩ s

theorem perform_keeps_statusTruthful {op : HostOp} {s t : State} (truthful : StatusTruthful s)
    (performs : perform op s = .next t) : StatusTruthful t := by
  obtain ⟨same, -⟩ | ⟨-, rfl⟩ | ⟨cw, -, -, run⟩ := perform_cases performs
  · exact statusTruthful_of_sameStatus truthful same
  · exact .inl ⟨rfl, rfl, rfl, rfl⟩
  · exact runWord_keeps_statusTruthful truthful run

/-- Settles O47: a step waits or performs an operation, and neither looks at what else is pending. -/
theorem stepsKeepStatusTruthful : Obligations.StepsKeepStatusTruthful := by
  intro s t truthful steps
  obtain ⟨-, waits⟩ | ⟨op, rest, -, performs⟩ := performNext_cases s
  · obtain rfl := Host.Outcome.next.inj (waits.symm.trans steps)
    exact truthful
  · have truthful' : StatusTruthful { s with inbox := rest } :=
      statusTruthful_of_sameStatus truthful ⟨rfl, rfl, rfl, rfl⟩
    exact perform_keeps_statusTruthful truthful' (performs.symm.trans steps)

end Sys2Proof.Exceptions

/-! PROOFS. Reset, waiting and the order of commands (spec/70_reset_and_hazards.md). The parts: register writes that may be
exchanged, and with them two commands (section 3); `Reset()` and waiting (section 1); every step completes (section 4). -/

namespace Sys2Proof.ResetAndHazards

open Sys2Proof.Machine Sys2Proof.Claims
open Sys2Proof.StateRules (setRegs setRegs_pc_mode sameEffect_exec step_pending)

/-! ### Writes to different registers (R31) -/

theorem setReg_comm (s : State) {r q : Reg} (h : r ≠ q) (v w : Word) :
    (s.setReg r v).setReg q w = (s.setReg q w).setReg r v := by
  unfold State.setReg
  rw [Vector.set_comm _ _ (Fin.val_ne_of_ne h)]

theorem setRegs_setReg_comm {writes : List (Reg × Word)} {r : Reg} (h : r ∉ writes.map Prod.fst) (v : Word) (s : State) :
    setRegs writes (s.setReg r v) = (setRegs writes s).setReg r v := by
  induction writes generalizing s with
  | nil => rfl
  | cons write writes ih =>
    obtain ⟨ne, rest⟩ := not_or.1 (mt List.mem_cons.2 h)
    calc setRegs writes ((s.setReg r v).setReg write.1 write.2)
        = setRegs writes ((s.setReg write.1 write.2).setReg r v) := by rw [setReg_comm s ne]
      _ = (setRegs writes (s.setReg write.1 write.2)).setReg r v := ih rest _

theorem setRegs_comm {writes writes' : List (Reg × Word)}
    (disjoint : ∀ r ∈ writes.map Prod.fst, r ∉ writes'.map Prod.fst) (s : State) :
    setRegs writes (setRegs writes' s) = setRegs writes' (setRegs writes s) := by
  induction writes generalizing s with
  | nil => rfl
  | cons write writes ih =>
    obtain ⟨fresh, rest⟩ := List.forall_mem_cons.1 disjoint
    calc setRegs writes ((setRegs writes' s).setReg write.1 write.2)
        = setRegs writes (setRegs writes' (s.setReg write.1 write.2)) := by rw [setRegs_setReg_comm fresh]
      _ = setRegs writes' (setRegs writes (s.setReg write.1 write.2)) := ih rest _

/-- Register writes do not look at the count of completed commands. -/
theorem setRegs_advance (writes : List (Reg × Word)) (s : State) : setRegs writes s.advance = (setRegs writes s).advance := by
  induction writes generalizing s with
  | nil => rfl
  | cons write writes ih => exact ih (s.setReg write.1 write.2)

/-! ### Two commands on disjoint registers (R246) -/

/-- Completing or faulting, a command leaves every register but its destinations. -/
theorem exec_keeps_reg {i : Instr} {s t : State} {r : Reg} (run : exec i s = .next t) (hr : r ∉ i.dests) :
    t.reg r = s.reg r := by
  obtain ⟨-, -, kept⟩ | ⟨_, _, -, -, -, -, -, kept, -⟩ := Exceptions.commandsCompleteOrTakeTheirOwnFaults i s t run
  · exact kept r hr
  · exact kept r

/-- A command that completes writes its destinations, and writes the same on every state with the same sources. -/
theorem exec_writes_alike {i : Instr} {s t u : State} (run : exec i s = .next t) (counts : t.pc = s.pc + 1)
    (agree : ∀ r ∈ i.sources, s.reg r = u.reg r) :
    ∃ writes, writes.map Prod.fst = i.dests ∧ t = (setRegs writes s).advance ∧
      exec i u = .next (setRegs writes u).advance := by
  obtain ⟨e, writes, eq, eq'⟩ := sameEffect_exec agree
  obtain rfl := Host.Outcome.next.inj (run.symm.trans eq)
  cases e with
  | complete ws => exact ⟨ws, writes, rfl, eq'⟩
  | fault cw cause info => exact absurd counts (Nat.succ_ne_self s.pc).symm

/-- Settles O49: neither command touches the other's sources, so each writes after the other what it writes before it, and
the two lists of writes share no register. -/
theorem disjointCommandsCommute : Obligations.DisjointCommandsCommute := by
  intro i j s a b apart unread runI countI runJ countJ
  have agreeI : ∀ r ∈ i.sources, s.reg r = b.reg r := fun r hr =>
    (exec_keeps_reg runJ fun written => unread r written hr).symm
  have agreeJ : ∀ r ∈ j.sources, s.reg r = a.reg r := fun r hr =>
    (exec_keeps_reg runI fun written => (apart r written).2 hr).symm
  obtain ⟨writesI, destsI, rfl, runI'⟩ := exec_writes_alike runI countI agreeI
  obtain ⟨writesJ, destsJ, rfl, runJ'⟩ := exec_writes_alike runJ countJ agreeJ
  have disjoint : ∀ r ∈ writesI.map Prod.fst, r ∉ writesJ.map Prod.fst := by
    rw [destsI, destsJ]
    exact fun r hr => (apart r hr).1
  refine ⟨_, runJ', ?_⟩
  rw [runI', setRegs_advance, setRegs_advance, setRegs_comm disjoint]

/-! ### Reset and waiting (R240, R241) -/

/-- `Reset()` reads nothing of the state but the counter of free values, and keeps the host's two lists. -/
theorem resetBlock_congr {s s' : State} (free : s.free = s'.free) (inbox : s.inbox = s'.inbox)
    (replies : s.replies = s'.replies) : s.resetBlock = s'.resetBlock := by
  simp only [State.resetBlock, free, inbox, replies]

/-- Settles O1: the step performs `Reset()`, and its next state is `State.resetBlock`. -/
theorem resetCleansStatusFromEitherMode : Obligations.ResetCleansStatusFromEitherMode := by
  have resets (s : State) : step (s.pending .reset) = .next s.resetBlock := step_pending s .reset
  refine ⟨fun s => ⟨s.resetBlock, resets s, rfl, rfl, rfl, rfl⟩, fun s s' free inbox replies => ?_⟩
  rw [resets, resets, resetBlock_congr free inbox replies]

/-- Settles O4: a step waits or performs a pending operation, and there is none to perform. -/
theorem blockWaitsWithNothingPending : Obligations.BlockWaitsWithNothingPending := by
  intro s empty
  obtain ⟨-, waits⟩ | ⟨op, rest, inbox, -⟩ := performNext_cases s
  · exact waits
  · simp [empty] at inbox

/-! ### Every step completes (R247) -/

/-- A command answers the next state of its effect. -/
theorem exec_completes (i : Instr) (s : State) : ∃ t, exec i s = .next t := by
  obtain ⟨e, -, eq, -⟩ := sameEffect_exec (i := i) (s := s) (s' := s) fun _ _ => rfl
  exact ⟨e.apply s, eq⟩

theorem issue_completes (cw : CommandWord) (s : State) : ∃ t, issue cw s = .next t := by
  obtain ⟨-, issued⟩ | ⟨-, ignored⟩ := issue_cases cw s
  · obtain ⟨i, -, executes⟩ | ⟨-, -, faults⟩ := runWord_cases cw s
    · rw [issued, executes]
      exact exec_completes i s
    · exact ⟨_, issued.trans faults⟩
  · exact ⟨s, ignored⟩

theorem perform_completes (op : HostOp) (s : State) : ∃ t, perform op s = .next t := by
  cases op with
  | write i v => exact ⟨_, rfl⟩
  | read i => exact ⟨_, rfl⟩
  | issue cw => exact issue_completes cw s
  | readStatus => exact ⟨_, rfl⟩
  | reset => exact ⟨_, rfl⟩

/-- Settles O10: a step waits or performs one operation, which completes. -/
theorem everyStepCompletes : Obligations.EveryStepCompletes := by
  intro s
  obtain ⟨-, waits⟩ | ⟨op, rest, -, performs⟩ := performNext_cases s
  · exact ⟨s, waits⟩
  · rw [step, performs]
    exact perform_completes op { s with inbox := rest }

end Sys2Proof.ResetAndHazards
